-- ==== Sys2Proof/Word.lean ====
section
/-! DEFINITION. The two word types of the block (00_scope.md R10, R14): the 8-bit bus unit and the 32-bit register word. Every value is unsigned. -/

namespace Sys2Proof

/-- The bus unit: one byte, `[7:0]` (R10, R14). -/
abbrev Byte := BitVec 8

/-- A host register, a command word, a command argument: 32 bits, `[31:0]` (R14). -/
abbrev Word := BitVec 32

end Sys2Proof
end

