-- ==== Sys2Proof/Config.lean ====
section
/-! DEFINITION. What is fixed while the block runs (the parameters of 00_scope.md R11, with R13's constraints) and the free values the spec leaves to the card or to a race. -/

namespace Sys2Proof

/-- The archive-attribute test, parameter `ATTR_MATCH` (R11, R243). -/
inductive AttrMatch where
  | bit
  | exact
  deriving DecidableEq, Repr

/-- `INIT_CHK`, the checksum operand of each bring-up command (R181). -/
structure InitChk where
  cmd0 : Byte
  cmd8 : Byte
  cmd55 : Byte
  acmd41 : Byte
  cmd58 : Byte
  deriving DecidableEq, Repr

/-- The named parameters of R11, in the table's order. -/
structure Config where
  r1PollMax : Nat
  idleAttempts : Nat
  appAttempts : Nat
  tokenPollMax : Nat
  pwrupFillers : Nat
  settleMs : Nat
  paceMs : Nat
  ocrSettleMs : Nat
  stopMask : Byte
  cmd8Arg : Word
  checkPattern : Byte
  acmd41Arg : Word
  initChk : InitChk
  rootScanSectors : Nat
  attrMatch : AttrMatch
  deriving DecidableEq, Repr

/-- The default of every parameter (R11, R181). UNVERIFIED: the spec itself marks its literals unaudited
and several as general knowledge (log entry 14). -/
def Config.default : Config where
  r1PollMax := 9
  idleAttempts := 10
  appAttempts := 255
  tokenPollMax := 1500
  pwrupFillers := 10
  settleMs := 1
  paceMs := 1
  ocrSettleMs := 1
  stopMask := 0x80
  cmd8Arg := 0x000001AA
  checkPattern := 0xAA
  acmd41Arg := 0x40000000
  initChk := { cmd0 := 0x95, cmd8 := 0x87, cmd55 := 0x65, acmd41 := 0x77, cmd58 := 0x00 }
  rootScanSectors := 1
  attrMatch := .bit

/-- Exactly one bit of `m` is set (R13, `STOP_MASK`). -/
def oneBit (m : Byte) : Bool := m != 0 && (m &&& (m - 1)) == 0

/-- The constraints a configuration must meet to be admitted: R13, and at least ten power-up fillers
(R11 ground column and 92_eei_decisions.md D17; log entry 10). -/
def Config.admitted (c : Config) : Bool :=
  1 ≤ c.r1PollMax && 1 ≤ c.idleAttempts && 1 ≤ c.appAttempts && 1 ≤ c.tokenPollMax &&
  1 ≤ c.rootScanSectors && 10 ≤ c.pwrupFillers && oneBit c.stopMask &&
  c.checkPattern == c.cmd8Arg.extractLsb' 0 8

/-- FREE VALUE. The byte the card returns on the `k`-th free draw: any 8-bit value, under no law (R22).
DESIGN CHOICE, log entry 3. Safe: nothing can be proved of it. -/
opaque Config.cardByte : Nat → Byte

/-- FREE VALUE. What a host read of an output register returns while BUSY = 1 (R97, R321).
DESIGN CHOICE, log entry 4. Safe. -/
opaque Config.busyWord : Nat → Word

/-- FREE VALUE. What a host read of SB returns while a block-reading operation runs (R83 (b)).
DESIGN CHOICE, log entry 4. Safe. -/
opaque Config.busyByte : Nat → Byte

/-- FREE VALUE. What the engine would see in a sector-buffer byte that nothing has written. The spec says
the engine never reads one (R47); no reachable state does. DESIGN CHOICE, log entry 5. Safe. -/
opaque Config.unwrittenByte : Nat → Byte

end Sys2Proof
end

