-- ==== Sys2Proof/Syntax.lean ====
section
/-! DEFINITION. The instructions: one constructor per row of spec/opcode_table.json. Ten host operations (format HOSTCMD, 30_encoding.md R110, R111) and seven command frames (format SDFRAME, R116, R119). -/

namespace Sys2Proof

/-- One row of the opcode table. The operands are the fields of the row's own encoding; what a host
operation reads besides (ARG, the name) it takes from the operand latches (R112). -/
inductive Instr where
  /-- INIT, OPC 0x01 (R186). -/
  | init
  /-- SENDCMD, OPC 0x02: IDX `w[13:8]`, RTYPE `w[17:16]`, CHK `w[31:24]` (R110, R190). -/
  | sendcmd (idx : BitVec 6) (rtype : BitVec 2) (chk : Byte)
  /-- RDBLK, OPC 0x03 (R195). -/
  | rdblk
  /-- MOUNT, OPC 0x04 (R210). -/
  | mount
  /-- C2S, OPC 0x05 (R221). -/
  | c2s
  /-- NORM, OPC 0x06 (R231). -/
  | norm
  /-- RDFILE, OPC 0x07 (R240). -/
  | rdfile
  /-- DECR1, OPC 0x08 (R262). -/
  | decr1
  /-- DECR3, OPC 0x09 (R264). -/
  | decr3
  /-- DECR7, OPC 0x0A (R266). -/
  | decr7
  /-- The frame of CMD0 GO_IDLE_STATE (R119, R182). -/
  | cmd0
  /-- The frame of CMD8 SEND_IF_COND (R119, R183). -/
  | cmd8
  /-- The frame of CMD55 APP_CMD (R119, R184). -/
  | cmd55
  /-- The frame of ACMD41 SD_SEND_OP_COND (R119, R184). -/
  | acmd41
  /-- The frame of CMD58 READ_OCR (R119, R185). -/
  | cmd58
  /-- The frame of CMD17 READ_SINGLE_BLOCK with its sector number (R119, R170). -/
  | cmd17 (sector : Word)
  /-- Any other frame (R116, R150): command index, argument, and the checksum operand without its stop bit. -/
  | sdframe (idx : BitVec 6) (arg : Word) (chk : Byte)
  deriving DecidableEq, Repr

end Sys2Proof
end

