-- ==== Sys2Proof/WellFormed.lean ====
section
/-! DEFINITION. Which instructions are well formed. The fields' types bound every operand; only the generic frame carries checks, because the table's last row overlaps the six before it. -/

namespace Sys2Proof

/-- The checksum operand `chk` with its stop bit cleared: what a frame keeps of it (30_encoding.md R116). -/
def noStop (c : Config) (chk : Byte) : Byte := chk &&& ~~~ c.stopMask

/-- A generic frame that is really one of the block's own six frames (R119): same index, argument and
checksum operand. -/
def isNamedFrame (c : Config) (idx : BitVec 6) (arg : Word) (chk : Byte) : Bool :=
  (idx == 0 && arg == 0 && chk == noStop c c.initChk.cmd0) ||
  (idx == 8 && arg == c.cmd8Arg && chk == noStop c c.initChk.cmd8) ||
  (idx == 55 && arg == 0 && chk == noStop c c.initChk.cmd55) ||
  (idx == 41 && arg == c.acmd41Arg && chk == noStop c c.initChk.acmd41) ||
  (idx == 58 && arg == 0 && chk == noStop c c.initChk.cmd58) ||
  (idx == 17 && chk == noStop c 0)

/-- Well-formedness. A generic frame must not carry a stop bit in its checksum operand (the framer adds it,
R116) and must not be one of the six named frames, which have constructors of their own. -/
def Instr.wellFormed (c : Config) : Instr → Bool
  | .init => true
  | .sendcmd _ _ _ => true
  | .rdblk => true
  | .mount => true
  | .c2s => true
  | .norm => true
  | .rdfile => true
  | .decr1 => true
  | .decr3 => true
  | .decr7 => true
  | .cmd0 => true
  | .cmd8 => true
  | .cmd55 => true
  | .acmd41 => true
  | .cmd58 => true
  | .cmd17 _ => true
  | .sdframe idx arg chk => chk &&& c.stopMask == 0 && !isNamedFrame c idx arg chk

end Sys2Proof
end

