-- ==== Sys2Proof/Decode.lean ====
section
/-! DEFINITION. The two encoding layers of 30_encoding.md: the 32-bit host command word (R110, R111) and the 6-byte command frame (R116). First the framer, then the decoder, total and rejecting by name, then the encoder. -/

namespace Sys2Proof

/-- Why a word is no instruction. -/
inductive DecodeError where
  /-- A command word with OPC = 0x00 or OPC ≥ 0x0B (R114). -/
  | reservedOpcode (opc : Byte)
  /-- A frame whose F0 does not begin with the marker bits 01 (R116, R117). -/
  | markerBits
  /-- A frame whose last byte lacks the stop bit (R116, R118). -/
  | stopBit
  deriving DecidableEq, Repr

/-! ## The framer -/

/-- `F5 = (chk & ~STOP_MASK) | STOP_MASK` (R116). -/
def checksumByte (c : Config) (chk : Byte) : Byte := (chk &&& ~~~ c.stopMask) ||| c.stopMask

/-- `Frame(idx, arg, chk)` as one 48-bit number, F0 in bits 47:40 (R116, R150; the table's numbering). -/
def frameWord (c : Config) (idx : BitVec 6) (arg : Word) (chk : Byte) : BitVec 48 :=
  0b01#2 ++ idx ++ arg ++ checksumByte c chk

/-- Byte `F<i>` of a frame, `i` from 0 to 5 (R116). -/
def frameByte (f : BitVec 48) (i : Nat) : Byte := f.extractLsb' (8 * (5 - i)) 8

/-- The six frame bytes in the order they are sent (R116, R152). -/
def frameBytes (f : BitVec 48) : List Byte :=
  [frameByte f 0, frameByte f 1, frameByte f 2, frameByte f 3, frameByte f 4, frameByte f 5]

/-- The frames of the block's own commands (R119, R134). -/
def cmd0Frame (c : Config) : BitVec 48 := frameWord c 0 0 c.initChk.cmd0
def cmd8Frame (c : Config) : BitVec 48 := frameWord c 8 c.cmd8Arg c.initChk.cmd8
def cmd55Frame (c : Config) : BitVec 48 := frameWord c 55 0 c.initChk.cmd55
def acmd41Frame (c : Config) : BitVec 48 := frameWord c 41 c.acmd41Arg c.initChk.acmd41
def cmd58Frame (c : Config) : BitVec 48 := frameWord c 58 0 c.initChk.cmd58
/-- The single-block read of sector `s`: the sector number unchanged as the argument, checksum operand 0x00
(R84, R170). -/
def cmd17Frame (c : Config) (s : Word) : BitVec 48 := frameWord c 17 s 0x00

/-! ## The decoder -/

/-- The OPC field `w[7:0]` (R110). -/
def opcodeOf (w : Word) : Byte := w.extractLsb' 0 8

/-- The instruction a host command word selects (R110, R111). Reserved fields are ignored (R113). RTYPE = 3
decodes: it is SENDCMD's own check that finishes ILLEGAL_OP (R190, log entry 9). -/
def decodeHost (w : Word) : Except DecodeError Instr :=
  match (opcodeOf w).toNat with
  | 0x01 => .ok .init
  | 0x02 => .ok (.sendcmd (w.extractLsb' 8 6) (w.extractLsb' 16 2) (w.extractLsb' 24 8))
  | 0x03 => .ok .rdblk
  | 0x04 => .ok .mount
  | 0x05 => .ok .c2s
  | 0x06 => .ok .norm
  | 0x07 => .ok .rdfile
  | 0x08 => .ok .decr1
  | 0x09 => .ok .decr3
  | 0x0A => .ok .decr7
  | _ => .error (.reservedOpcode (opcodeOf w))

/-- The command frame six bytes are (R116, R119): one of the block's own where all its bits agree, else the
generic frame. -/
def decodeFrame (c : Config) (f : BitVec 48) : Except DecodeError Instr :=
  if f.extractLsb' 46 2 ≠ 0b01#2 then .error .markerBits
  else if frameByte f 5 &&& c.stopMask ≠ c.stopMask then .error .stopBit
  else if f = cmd0Frame c then .ok .cmd0
  else if f = cmd8Frame c then .ok .cmd8
  else if f = cmd55Frame c then .ok .cmd55
  else if f = acmd41Frame c then .ok .acmd41
  else if f = cmd58Frame c then .ok .cmd58
  else if f = cmd17Frame c (f.extractLsb' 8 32) then .ok (.cmd17 (f.extractLsb' 8 32))
  else .ok (.sdframe (f.extractLsb' 40 6) (f.extractLsb' 8 32) (noStop c (frameByte f 5)))

/-- What carries an instruction: a word written to CMD, or a frame on the wire. -/
inductive Encoding where
  | host (w : Word)
  | frame (f : BitVec 48)
  deriving DecidableEq, Repr

/-- The decoder of both layers. -/
def decode (c : Config) : Encoding → Except DecodeError Instr
  | .host w => decodeHost w
  | .frame f => decodeFrame c f

/-! ## The encoder -/

/-- A host command word with reserved fields 0 (R110). -/
def hostWord (opc : Byte) (idx : BitVec 6) (rtype : BitVec 2) (chk : Byte) : Word :=
  chk ++ 0#6 ++ rtype ++ 0#2 ++ idx ++ opc

/-- The word of an instruction (R110, R111, R116, R119). -/
def encode (c : Config) : Instr → Encoding
  | .init => .host (hostWord 0x01 0 0 0)
  | .sendcmd idx rtype chk => .host (hostWord 0x02 idx rtype chk)
  | .rdblk => .host (hostWord 0x03 0 0 0)
  | .mount => .host (hostWord 0x04 0 0 0)
  | .c2s => .host (hostWord 0x05 0 0 0)
  | .norm => .host (hostWord 0x06 0 0 0)
  | .rdfile => .host (hostWord 0x07 0 0 0)
  | .decr1 => .host (hostWord 0x08 0 0 0)
  | .decr3 => .host (hostWord 0x09 0 0 0)
  | .decr7 => .host (hostWord 0x0A 0 0 0)
  | .cmd0 => .frame (cmd0Frame c)
  | .cmd8 => .frame (cmd8Frame c)
  | .cmd55 => .frame (cmd55Frame c)
  | .acmd41 => .frame (acmd41Frame c)
  | .cmd58 => .frame (cmd58Frame c)
  | .cmd17 s => .frame (cmd17Frame c s)
  | .sdframe idx arg chk => .frame (frameWord c idx arg chk)

/-! ## The host's view of the opcode table -/

/-- The instruction the decoder reads from `w`, numbered as spec/opcode_table.json numbers it: up to 32 bits a
host command word, whose absent bits are 0; 48 bits a frame at the default parameters with F0 in bits 47:40, as
the table's own fields say (log entry 8). -/
def decodeTableWord (nbits w : Nat) : Option Instr :=
  if nbits ≤ 32 then (decodeHost (BitVec.ofNat 32 w)).toOption
  else if nbits ≤ 48 then (decodeFrame Config.default (BitVec.ofNat 48 w)).toOption
  else none

end Sys2Proof
end

