-- ==== Sys2Proof/Machine/State.lean ====
section
/-! DEFINITION. The state of the block (10_state.md R30-R50): the host register file, the internal bits, the sequencer step, the operand latches, the sector buffer and the event history, as plain data, with the world around the block (host accesses still to come, what they returned, card answers) beside it. -/

namespace Sys2Proof.Machine

/-- The chip-select level `cs` (R44). -/
inductive ChipSelect where
  | sel
  | desel
  deriving DecidableEq, Repr

/-- One event of the event history (00_scope.md R17, 10_state.md R48). -/
inductive Event where
  | csEv (level : ChipSelect)
  | xchgEv (out : Byte) (inp : Byte)
  | delayEv (ms : Nat)
  | opStart (opc : Byte)
  | opEnd (code : Byte)
  deriving DecidableEq, Repr

/-- The response format a transaction reads (40_card_protocol.md R165). -/
inductive RespKind where
  | r1
  | r3
  | r7
  | data
  deriving DecidableEq, Repr

/-- A position inside SendCommand (R165), just after the last bus primitive performed, with the loop
variables of the response read (R45, R161, R163, R171, R172). -/
inductive Phase where
  /-- No primitive of this transaction has been performed. -/
  | start
  /-- After `CS(SEL)`. -/
  | selected
  /-- After the settle byte and `sent` frame bytes. -/
  | frame (sent : Nat)
  /-- After the frame and `polls` R1 polls, the last of which returned `last` (0xFF before the first). -/
  | r1Poll (polls : Nat) (last : Byte)
  /-- After these trailing bytes of an R3 or R7 response. -/
  | trailing (got : List Byte)
  /-- After `polls` token polls, the last of which returned `last`. -/
  | tokenPoll (polls : Nat) (last : Byte)
  /-- After `stored` data bytes. -/
  | data (stored : Nat)
  /-- After the first CRC byte. -/
  | crc1
  /-- After the second CRC byte. -/
  | crc2
  /-- After the settle byte that follows the response read. -/
  | settled
  /-- After `CS(DESEL)`. -/
  | deselected
  /-- After the trailing byte: the transaction is over and its result stands in the record. -/
  | complete
  deriving DecidableEq, Repr

/-- The locals of one SendCommand (R165): the frame being sent, the response kind, the position, and the
result `(r, t, tok)`, with `word = none` for the trailing word NONE (R163). -/
structure Txn where
  frame : BitVec 48
  kind : RespKind
  phase : Phase
  r1 : Byte
  word : Option Word
  tok : Byte
  deriving DecidableEq, Repr

/-- A transaction about to begin (R165): no response byte yet, no trailing word, no token. -/
def Txn.fresh (f : BitVec 48) (k : RespKind) : Txn :=
  { frame := f, kind := k, phase := .start, r1 := 0xFF, word := none, tok := 0xFF }

/-- No transaction under way and none done. DESIGN CHOICE, log entry 15: the spec gives these locals no value
outside a transaction; no operation reads them there. -/
def Txn.none : Txn := { Txn.fresh 0 .r1 with phase := .complete }

/-- A position in INIT with its counters `a` and `n` (R178, R182-R185). -/
inductive InitPoint where
  /-- After `CS(DESEL)`. -/
  | powered
  /-- After the settle delay, with this many power-up fillers still to send. -/
  | fillers (left : Nat)
  /-- In CMD0 attempt `a`. -/
  | goIdle (a : Nat)
  /-- In CMD8. -/
  | ifCond (a : Nat)
  /-- In CMD55 of iteration `n`. -/
  | appCmd (a n : Nat)
  /-- In ACMD41 of iteration `n`. -/
  | opCond (a n : Nat)
  /-- After the pacing delay of iteration `n`. -/
  | paced (a n : Nat)
  /-- After the settle delay of ReadOCR. -/
  | ocrSettled (a n : Nat)
  /-- In CMD58. -/
  | readOcr (a n : Nat)
  deriving DecidableEq, Repr

/-- A position in MOUNT with its local `u` (41_volume_reader.md R210). -/
inductive MountPoint where
  /-- In the read of sector 0. -/
  | sector0
  /-- In the read of the partition's first sector `u`. -/
  | partition (u : Word)
  deriving DecidableEq, Repr

/-- A position in RDFILE with its locals (R240). -/
inductive RdfilePoint where
  /-- In the read of root-directory sector `s0 + k`, looking for `target`. -/
  | directory (k : Nat) (target : List Byte) (s0 : Word)
  /-- In the read of the matched file's first sector. -/
  | file (c z : Word)
  deriving DecidableEq, Repr

/-- A position in the pseudocode of an operation's rule (R45). -/
inductive Point where
  | start
  | init (p : InitPoint)
  | sendcmd
  | rdblk
  | mount (p : MountPoint)
  | rdfile (p : RdfilePoint)
  deriving DecidableEq, Repr

/-- The sequencer step, the block's analog of a program counter: IDLE or RUN(op, point) (R45). -/
inductive Sequencer where
  | idle
  | run (op : Byte) (point : Point)
  deriving DecidableEq, Repr

/-- The Volume Geometry registers at their own widths (R41). -/
structure Geometry where
  bps : BitVec 16
  spc : BitVec 8
  rsvd : BitVec 16
  nfats : BitVec 8
  fatsz : Word
  rootclus : Word
  hidden : Word
  totsec : Word
  fds : Word
  totclus : Word
  unused : Word
  deriving DecidableEq, Repr

/-- Every geometry register at its reset value (R31). -/
def Geometry.zero : Geometry :=
  { bps := 0, spc := 0, rsvd := 0, nfats := 0, fatsz := 0, rootclus := 0, hidden := 0, totsec := 0, fds := 0,
    totclus := 0, unused := 0 }

/-- The operand latches (R46). -/
structure Latches where
  cmd : Word
  arg : Word
  nameLen : BitVec 5
  name : List Byte
  deriving DecidableEq, Repr

/-- The sector buffer as its written bytes, by rising address; an address not listed is unwritten (R47). -/
abbrev Memory := List Host.Cell

/-- One access the host will make, or its choice to let the engine move (R20, R131). Log entry 2. -/
inductive HostMove where
  /-- The host does nothing and the engine makes one step. -/
  | yield
  /-- `WR`: write `v` to register `n` (R81, R131). -/
  | write (n : BitVec 6) (v : Word)
  /-- `RD`: read register `n` (R81, R131). -/
  | read (n : BitVec 6)
  /-- `SBRD`: read byte `i` through the SB port (R82, R131). -/
  | sbRead (i : BitVec 9)
  /-- `WAIT`: read STATUS until BUSY = 0 (R131). -/
  | wait
  /-- Assert reset (R311). -/
  | reset
  deriving DecidableEq, Repr

/-- What one host read returned (R81, R82). -/
inductive HostRead where
  | reg (n : BitVec 6) (v : Word)
  | sb (i : BitVec 9) (b : Byte)
  deriving DecidableEq, Repr

/-- The state of the block and of the world around it. -/
structure State where
  /-- The parameters (R11), fixed while the block runs. -/
  cfg : Config
  /-- ARG (R34). -/
  arg : Word
  /-- RESULT (R35). -/
  result : Word
  /-- R1TOK[7:0], R1_LAST (R36). -/
  r1Last : Byte
  /-- R1TOK[15:8], TOKEN_LAST (R36). -/
  tokenLast : Byte
  /-- RESP (R37). -/
  resp : Word
  /-- NAMELEN[4:0] (R38). -/
  nameLen : BitVec 5
  /-- NAME0-NAME3 (R39). -/
  name0 : Word
  name1 : Word
  name2 : Word
  name3 : Word
  /-- NORM0-NORM2 (R40). -/
  norm0 : Word
  norm1 : Word
  norm2 : Word
  /-- The Volume Geometry registers (R41). -/
  geo : Geometry
  /-- FCLUS (R42). -/
  fclus : Word
  /-- FSIZE (R42). -/
  fsize : Word
  /-- The chip-select level (R44). -/
  cs : ChipSelect
  /-- The last INIT succeeded (R44). -/
  cardReady : Bool
  /-- The last MOUNT succeeded (R44). -/
  mounted : Bool
  /-- STATUS.BUSY (R33). -/
  busy : Bool
  /-- STATUS.DONE (R33). -/
  done : Bool
  /-- STATUS.OVERRUN, sticky, W1C (R33). -/
  overrun : Bool
  /-- STATUS.CODE (R33, R280). -/
  code : Byte
  /-- STATUS.LAST_OPC (R33). -/
  lastOpc : Byte
  /-- The sequencer step (R45). -/
  seq : Sequencer
  /-- The locals of the transaction the step is in (R45, R165). -/
  txn : Txn
  /-- The operand latches (R46). -/
  latch : Latches
  /-- The sector buffer (R47). -/
  sb : Memory
  /-- The event history, oldest first (R48). -/
  history : List Event
  /-- THE MODEL'S OWN: the host's accesses still to come, first one first (R20). -/
  moves : List HostMove
  /-- THE MODEL'S OWN: what the host's reads have returned, oldest first. -/
  reads : List HostRead
  /-- THE MODEL'S OWN: card answers laid down in advance, next one first (R22). -/
  cardIn : List Byte
  /-- THE MODEL'S OWN: how many free values have been drawn. -/
  draws : Nat
  deriving DecidableEq, Repr

/-- Why a step stops. -/
inductive Fault where
  /-- Raised by the SB port when the host reads a byte that no data phase has written (R83 (a)). Safe: the spec
  itself says that the read faults. No instruction raises it. -/
  | unwrittenSectorByte (i : BitVec 9)
  deriving DecidableEq, Repr

/-- Why a step has no meaning. -/
inductive Refusal where
  /-- Raised by exec for an instruction without a meaning (none at present). Safe. -/
  | notModelled (mnemonic : String)
  /-- Raised by step when the configuration is outside R13: no run is admitted for it. Safe. -/
  | configNotAdmitted
  deriving DecidableEq, Repr

/-- The state right after reset at the default parameters (R50), with nothing asked of the block yet. -/
def State.reset : State where
  cfg := Config.default
  arg := 0
  result := 0
  r1Last := 0xFF
  tokenLast := 0xFF
  resp := 0
  nameLen := 0
  name0 := 0
  name1 := 0
  name2 := 0
  name3 := 0
  norm0 := 0
  norm1 := 0
  norm2 := 0
  geo := Geometry.zero
  fclus := 0
  fsize := 0
  cs := .desel
  cardReady := false
  mounted := false
  busy := false
  done := false
  overrun := false
  code := 0
  lastOpc := 0
  seq := .idle
  txn := Txn.none
  latch := { cmd := 0, arg := 0, nameLen := 0, name := List.replicate 16 0 }
  sb := []
  history := []
  moves := []
  reads := []
  cardIn := []
  draws := 0

end Sys2Proof.Machine
end

