-- ==== Sys2Proof/Machine/Ops.lean ====
section
/-! DEFINITION. The named operations every meaning is built from: the sector buffer's read and write (R47), the bus primitives and the events they record (00_scope.md R17), the sequencer (R45), completion (60_exceptions.md R285) and acceptance (R286), the block's analogs of taking an exception and of starting again after one. -/

namespace Sys2Proof.Machine

/-! ## The sector buffer -/

/-- Byte `a` of a sector buffer; `none` where nothing has written it (R47). -/
def Memory.read : Memory → Nat → Option Byte
  | [], _ => none
  | (k, v) :: rest, a => if a = k then some v else Memory.read rest a

/-- Put `b` at `a` in a list of bytes that is kept by rising address. -/
def Memory.insert : Memory → Nat → Byte → Memory
  | [], a, b => [(a, b)]
  | (k, v) :: rest, a, b =>
    if a < k then (a, b) :: (k, v) :: rest
    else if a = k then (a, b) :: rest
    else (k, v) :: Memory.insert rest a b

/-- `SB[a] <- b`, for `0 ≤ a < 512` (R16, R47); the buffer has no other byte. -/
def Memory.write (m : Memory) (a : Nat) (b : Byte) : Memory :=
  if a < 512 then m.insert a b else m

/-- The canonical form: addresses strictly rising and inside the buffer. -/
abbrev Memory.wf (m : Memory) : Prop :=
  m.Pairwise (fun c d => c.1 < d.1) ∧ ∀ c ∈ m, c.1 < 512

/-- `SB[a]` as the engine reads it (R16). The engine never reads an unwritten byte (R47); such a read, which no
reachable state makes, sees a free value (log entry 5). -/
def State.sbByte (s : State) (a : Nat) : Byte := (s.sb.read a).getD (Config.unwrittenByte a)

/-! ## Bus primitives -/

/-- `CS(level)`: `cs <- level`, recorded (R17). -/
def driveCs (level : ChipSelect) (s : State) : State :=
  { s with cs := level, history := s.history ++ [.csEv level] }

/-- `Delay(ms)`: an event and nothing else (R17, R294, R330). -/
def delay (ms : Nat) (s : State) : State := { s with history := s.history ++ [.delayEv ms] }

/-- The byte the card answers at the next exchange: the next one laid down, else a free draw (R22, log entry 3). -/
def State.nextIn (s : State) : Byte :=
  match s.cardIn with
  | b :: _ => b
  | [] => Config.cardByte s.draws

/-- `Xchg(out)`: send `out`, take in `nextIn`, record both (R17). The caller reads the byte with `nextIn` before. -/
def exchange (out : Byte) (s : State) : State :=
  { s with
    cardIn := s.cardIn.tail
    draws := if s.cardIn.isEmpty then s.draws + 1 else s.draws
    history := s.history ++ [.xchgEv out s.nextIn] }

/-- `Fill()`: `Xchg(0xFF)` with its returned byte ignored (R17). -/
def fill (s : State) : State := exchange 0xFF s

/-! ## The sequencer -/

/-- The point of the running operation (R45). -/
def State.point (s : State) : Point :=
  match s.seq with
  | .run _ p => p
  | .idle => .start

/-- `step <- RUN(op, p)` for the accepted operation (R45). -/
def State.atPoint (p : Point) (s : State) : State := { s with seq := .run s.lastOpc p }

/-- The same transaction at another position (R45, R165). -/
def State.atPhase (p : Phase) (s : State) : State := { s with txn := { s.txn with phase := p } }

/-! ## Completion and acceptance -/

/-- Status codes (R280). -/
def codeOk : Byte := 0x00
def codeIllegalOp : Byte := 0x01
def codeInitFail : Byte := 0x02
def codeReadErr : Byte := 0x03
def codeBootSigErr : Byte := 0x04
def codeMbrSigErr : Byte := 0x05
def codeNameTooLong : Byte := 0x06
def codeNotFound : Byte := 0x07
def codeNotReady : Byte := 0x08
def codeNotMounted : Byte := 0x09

/-- `finish(CODE)` (R285): the one way an operation ends, whatever its outcome. -/
def finish (c : Byte) (s : State) : State :=
  { s with code := c, busy := false, done := true, seq := .idle, history := s.history ++ [.opEnd c] }

/-- The 4 bytes of a name register, the lowest first (R39). -/
def bytesOfWord (w : Word) : List Byte :=
  [w.extractLsb' 0 8, w.extractLsb' 8 8, w.extractLsb' 16 8, w.extractLsb' 24 8]

/-- Filename bytes 0 to 15 (R39). -/
def State.nameBytes (s : State) : List Byte :=
  bytesOfWord s.name0 ++ bytesOfWord s.name1 ++ bytesOfWord s.name2 ++ bytesOfWord s.name3

/-- The operand latches as acceptance of `w` loads them (R46). -/
def loadLatches (w : Word) (s : State) : Latches :=
  { cmd := w, arg := s.arg, nameLen := s.nameLen, name := s.nameBytes }

/-- Acceptance of the command word `w` (R286): the operation is at its start, with no transaction under way. -/
def accept (w : Word) (s : State) : State :=
  { s with
    done := false
    busy := true
    lastOpc := w.extractLsb' 0 8
    latch := loadLatches w s
    seq := .run (w.extractLsb' 0 8) .start
    txn := Txn.none
    history := s.history ++ [.opStart (w.extractLsb' 0 8)] }

/-- A write to CMD (R32): accepted while idle (R286), else dropped with `overrun <- 1` and nothing else (R287). -/
def writeCmd (w : Word) (s : State) : State :=
  if s.busy then { s with overrun := true } else accept w s

/-- What an accepted illegal command word does: `finish(ILLEGAL_OP)` and nothing more (R281). -/
def illegalOp (s : State) : State := finish codeIllegalOp s

/-- Reset (R50, R311): every field of the block at its reset value. The parameters are the machine's own and
stay; what the host will do and has read, and the card's answers, are not the block's (log entry 16). -/
def resetBlock (s : State) : State :=
  { State.reset with
    cfg := s.cfg, moves := s.moves, reads := s.reads, cardIn := s.cardIn, draws := s.draws }

end Sys2Proof.Machine
end

