-- ==== Sys2Proof/Machine/Flags.lean ====
section
/-! DEFINITION. Every flag and flag-like word the spec computes: the R1 error test (R160), the STATUS word (R33), R1TOK (R36), the R1 classification (R261) and the R3 and R7 field decodes (R263, R265). The block has no condition codes (R49). -/

namespace Sys2Proof.Machine

/-- `IDLE_CODE`, `READY_CODE`, `NO_RESP` (00_scope.md R19). -/
def idleCode : Byte := 0x01
def readyCode : Byte := 0x00
def noResp : Byte := 0xFF

/-- The data-start token (R124). -/
def dataStart : Byte := 0xFE

/-- `ERR(v)`: `v > 0x01` (R160). -/
def isErr (v : Byte) : Bool := decide (1 < v.toNat)

/-- One bit from a flag. -/
def bitOf (b : Bool) : BitVec 1 := BitVec.ofBool b

/-- STATUS (R33): bit 0 BUSY, 1 DONE, 2 CARD_READY, 3 MOUNTED, 4 OVERRUN, 5 CS_ACTIVE, 15:8 CODE, 23:16 LAST_OPC, the rest 0. -/
def statusWord (s : State) : Word :=
  0#8 ++ s.lastOpc ++ s.code ++ 0#2 ++ bitOf (s.cs == .sel) ++ bitOf s.overrun ++ bitOf s.mounted ++
    bitOf s.cardReady ++ bitOf s.done ++ bitOf s.busy

/-- R1TOK (R36): R1_LAST in 7:0, TOKEN_LAST in 15:8, 31:16 read 0. -/
def r1tokWord (s : State) : Word := 0#16 ++ s.tokenLast ++ s.r1Last

/-- `ClassR1(v)` (R261): bits 7:0 the bits of `v`, 8 NO_RESPONSE, 9 ERROR, 10 IDLE_CODE, 11 READY_CODE, the rest 0. -/
def classR1 (v : Byte) : Word :=
  0#20 ++ bitOf (v == readyCode) ++ bitOf (v == idleCode) ++ bitOf (isErr v) ++ bitOf (v == noResp) ++ v

/-- `FieldsR3(t)` (R263): bit 0 power-up complete `t[31]`, bit 1 CCS `t[30]`, bits 10:2 voltage window `t[23:15]`. -/
def fieldsR3 (t : Word) : Word :=
  0#21 ++ t.extractLsb' 15 9 ++ t.extractLsb' 30 1 ++ t.extractLsb' 31 1

/-- `FieldsR7(t)` (R265): bits 3:0 version `t[31:28]`, 7:4 voltage `t[11:8]`, 15:8 echo `t[7:0]`, 16 echo match. -/
def fieldsR7 (c : Config) (t : Word) : Word :=
  0#15 ++ bitOf (t.extractLsb' 0 8 == c.checkPattern) ++ t.extractLsb' 0 8 ++ t.extractLsb' 8 4 ++ t.extractLsb' 28 4

end Sys2Proof.Machine
end

