-- ==== Sys2Proof/Machine/Operands.lean ====
section
/-! DEFINITION. Every operand form: the trailing word (R122), the little-endian on-disk readers (R16, R87), the boot-sector, MBR and directory-entry fields (R125-R127, R129), the cluster-to-sector map (R220), and the 8.3 short name with its register packing (R40, R230). -/

namespace Sys2Proof.Machine

/-- `t = B1 ++ B2 ++ B3 ++ B4` from the four trailing bytes in wire order (R122). -/
def trailingWord (bs : List Byte) : Word :=
  bs.getD 0 0 ++ bs.getD 1 0 ++ bs.getD 2 0 ++ bs.getD 3 0

/-- `le16(i)` (R16). -/
def State.le16 (s : State) (i : Nat) : BitVec 16 := s.sbByte (i + 1) ++ s.sbByte i

/-- `le32(i)` (R16). -/
def State.le32 (s : State) (i : Nat) : Word :=
  s.sbByte (i + 3) ++ s.sbByte (i + 2) ++ s.sbByte (i + 1) ++ s.sbByte i

/-- `JUMP_OK(b)` (R212). -/
def jumpOk (b : Byte) : Bool := b == 0xE9 || b == 0xEB

/-- `MBR_OK()` (R213): the signature 0xAA55 at offset 510. -/
def State.mbrOk (s : State) : Bool := s.le16 510 == 0xAA55

/-- The first partition's starting sector (R126, R213). -/
def State.partitionStart (s : State) : Word := s.le32 454

/-- `C2S(c, spc, fds)` (R220), modulo 2^32. -/
def clusterToSector (c : Word) (spc : BitVec 8) (fds : Word) : Word :=
  (c - 2) * spc.setWidth 32 + fds

/-- `C2S` with the geometry registers (R221, R240). -/
def State.sectorOf (s : State) (c : Word) : Word := clusterToSector c s.geo.spc s.geo.fds

/-- First data sector (R217), modulo 2^32. -/
def firstDataSector (hidden : Word) (rsvd : BitVec 16) (nfats : BitVec 8) (fatsz : Word) : Word :=
  hidden + rsvd.setWidth 32 + nfats.setWidth 32 * fatsz

/-- Total-cluster count (R218): unsigned, truncating, 0 when `spc = 0`. -/
def totalClusters (totsec : Word) (rsvd : BitVec 16) (nfats : BitVec 8) (fatsz : Word) (spc : BitVec 8) : Word :=
  if spc = 0 then 0
  else (totsec - (rsvd.setWidth 32 + nfats.setWidth 32 * fatsz)) / spc.setWidth 32

/-- `Geometry()` from the boot sector in SB (R125, R216-R218), with UNUSED (R219). -/
def State.geometryOf (s : State) (unused : Word) : Geometry :=
  { bps := s.le16 11
    spc := s.sbByte 13
    rsvd := s.le16 14
    nfats := s.sbByte 16
    fatsz := s.le32 36
    rootclus := s.le32 44
    hidden := s.le32 28
    totsec := s.le32 32
    fds := firstDataSector (s.le32 28) (s.le16 14) (s.sbByte 16) (s.le32 36)
    totclus := totalClusters (s.le32 32) (s.le16 14) (s.sbByte 16) (s.le32 36) (s.sbByte 13)
    unused := unused }

/-- `ATTR_OK(x)` (R243). -/
def attrOk (m : AttrMatch) (x : Byte) : Bool :=
  match m with
  | .bit => x &&& 0x20 != 0
  | .exact => x == 0x20

/-- The 11 name bytes of the entry at SB offset `o` (R127, R245). -/
def State.entryName (s : State) (o : Nat) : List Byte := (List.range 11).map (fun k => s.sbByte (o + k))

/-- The starting cluster of the entry at `o`: high half then low half, all 32 bits (R129). -/
def State.entryCluster (s : State) (o : Nat) : Word := s.le16 (o + 20) ++ s.le16 (o + 26)

/-- The file size of the entry at `o` (R127). -/
def State.entrySize (s : State) (o : Nat) : Word := s.le32 (o + 28)

/-- `l` followed by spaces up to `n` bytes (R128). -/
def padTo (n : Nat) (l : List Byte) : List Byte := l ++ List.replicate (n - l.length) 0x20

/-- Upper-case of an ASCII letter a-z; every other byte unchanged (R230). -/
def upper (b : Byte) : Byte := if 0x61 ≤ b.toNat ∧ b.toNat ≤ 0x7A then b - 0x20 else b

/-- The bytes before the first dot (R230, `base`). -/
def baseOf (name : List Byte) : List Byte := name.takeWhile (fun b => b != 0x2E)

/-- The bytes after the first dot, none where there is no dot (R230, `ext`). -/
def extOf (name : List Byte) : List Byte := name.drop ((baseOf name).length + 1)

/-- `Normalize(L, name)` (R230); `none` is TOO_LONG. -/
def normalize (len : Nat) (name : List Byte) : Option (List Byte) :=
  if 16 < len then none
  else if 8 < (baseOf (name.take len)).length then none
  else some ((padTo 8 (baseOf (name.take len)) ++ padTo 3 ((extOf (name.take len)).take 3)).map upper)

/-- The short name of the latched filename (R112, R230). -/
def State.latchedShortName (s : State) : Option (List Byte) :=
  normalize s.latch.nameLen.toNat s.latch.name

/-- Four bytes packed into a register, the first in the low byte (R40). -/
def wordOfBytes (b0 b1 b2 b3 : Byte) : Word := b3 ++ b2 ++ b1 ++ b0

/-- NORM bytes 0..10 <- the short name, with NORM2[31:24] = 0 (R40, R231). -/
def State.withNorm (n : List Byte) (s : State) : State :=
  { s with
    norm0 := wordOfBytes (n.getD 0 0) (n.getD 1 0) (n.getD 2 0) (n.getD 3 0)
    norm1 := wordOfBytes (n.getD 4 0) (n.getD 5 0) (n.getD 6 0) (n.getD 7 0)
    norm2 := wordOfBytes (n.getD 8 0) (n.getD 9 0) (n.getD 10 0) 0 }

/-- INIT's RESULT word (R185): failing step in 7:0, CMD0 attempts in 15:8, AppInit iterations in 31:16. -/
def initResult (a n : Nat) (failed : Byte) : Word := BitVec.ofNat 16 n ++ BitVec.ofNat 8 a ++ failed

end Sys2Proof.Machine
end

