-- ==== Sys2Proof/Machine/Transaction.lean ====
section
/-! DEFINITION. SendCommand (40_card_protocol.md R165), the one transaction every command uses, as a step from one bus primitive to the next (10_state.md R45): the bracket, the frame (R152), ReadR1 (R161), ReadR37 (R163), ReadData (R171) and DataPhase (R172). The pure computation after a primitive belongs to the step of the next one (R45). -/

namespace Sys2Proof.Machine

/-- The settle byte that follows every response read (R165). -/
def settle (s : State) : State := (fill s).atPhase .settled

/-- One trailing byte of an R3 or R7 response, after those already got (R163). -/
def trailingByte (got : List Byte) (s : State) : State :=
  (exchange 0xFF s).atPhase (.trailing (got ++ [s.nextIn]))

/-- ReadR37 after the bytes `got` (R163): the next byte, or RESP and the trailing word once four are there. -/
def readTrailing (got : List Byte) (s : State) : State :=
  if got.length < 4 then trailingByte got s
  else settle { s with resp := trailingWord got, txn := { s.txn with word := some (trailingWord got) } }

/-- One data byte into `SB[i]` (R172). -/
def dataByte (i : Nat) (s : State) : State :=
  { (exchange 0xFF s).atPhase (.data (i + 1)) with sb := s.sb.write i s.nextIn }

/-- DataPhase after `i` bytes (R172): the next byte, or the first CRC byte. -/
def dataPhase (i : Nat) (s : State) : State :=
  if i < 512 then dataByte i s else (fill s).atPhase .crc1

/-- The end of ReadData with token `tok` (R171): TOKEN_LAST and the result. -/
def endData (tok : Byte) (s : State) : State :=
  settle { s with tokenLast := tok, txn := { s.txn with tok := tok } }

/-- The token poll after `polls` polls, the last of which returned `last` (R171): it stops at the first byte
other than 0xFF and after `TOKEN_POLL_MAX` polls. -/
def pollToken (polls : Nat) (last : Byte) (s : State) : State :=
  if last ≠ 0xFF ∨ s.cfg.tokenPollMax ≤ polls then
    if last = dataStart then dataPhase 0 { s with txn := { s.txn with tok := last } }
    else endData last s
  else (exchange 0xFF s).atPhase (.tokenPoll (polls + 1) s.nextIn)

/-- The response read after the R1 byte `r`, by kind (R161, R163, R171). -/
def afterR1 (r : Byte) (s : State) : State :=
  let s := { s with r1Last := r, txn := { s.txn with r1 := r, word := none, tok := 0xFF } }
  match s.txn.kind with
  | .r1 => settle s
  | .r3 => if isErr r then settle s else trailingByte [] s
  | .r7 => if isErr r then settle s else trailingByte [] s
  | .data => if isErr r then endData 0xFF s else pollToken 0 0xFF s

/-- ReadR1 after `polls` polls, the last of which returned `last` (R161): it stops at the first byte other than
0xFF and after `R1_POLL_MAX` polls. -/
def pollR1 (polls : Nat) (last : Byte) (s : State) : State :=
  if last ≠ 0xFF ∨ s.cfg.r1PollMax ≤ polls then afterR1 last s
  else (exchange 0xFF s).atPhase (.r1Poll (polls + 1) s.nextIn)

/-- One step of SendCommand: the computation since the last primitive, and the next primitive (R45, R165). -/
def transactionStep (s : State) : State :=
  match s.txn.phase with
  | .start => (driveCs .sel s).atPhase .selected
  | .selected => (fill s).atPhase (.frame 0)
  | .frame i =>
    (exchange (frameByte s.txn.frame i) s).atPhase (if i < 5 then .frame (i + 1) else .r1Poll 0 0xFF)
  | .r1Poll k r => pollR1 k r s
  | .trailing got => readTrailing got s
  | .tokenPoll p b => pollToken p b s
  | .data i => dataPhase i s
  | .crc1 => (fill s).atPhase .crc2
  | .crc2 => endData dataStart s
  | .settled => (driveCs .desel s).atPhase .deselected
  | .deselected => (fill s).atPhase .complete
  | .complete => s

/-- The index of the SB byte that this step of SendCommand stores, if it stores one: byte 0 once the data-start
token has been seen, byte `i` after `i` data bytes (R171, R172). -/
def storeIndex (s : State) : Option Nat :=
  match s.txn.phase with
  | .tokenPoll polls last =>
    if (last ≠ 0xFF ∨ s.cfg.tokenPollMax ≤ polls) ∧ last = dataStart then some 0 else none
  | .data i => if i < 512 then some i else none
  | _ => none

/-- Begin SendCommand with frame `f` and response kind `k`: its first primitive, `CS(SEL)` (R165). -/
def beginTransaction (f : BitVec 48) (k : RespKind) (s : State) : State :=
  transactionStep { s with txn := Txn.fresh f k }

/-- An operation calls SendCommand and waits for it at point `p` (R45, R165). -/
def sendCommand (p : Point) (f : BitVec 48) (k : RespKind) (s : State) : State :=
  beginTransaction f k (s.atPoint p)

/-- An operation calls `BlockRead(sector)` and waits for it at point `p` (R170). -/
def blockRead (p : Point) (sector : Word) (s : State) : State :=
  sendCommand p (cmd17Frame s.cfg sector) .data s

/-- One engine step of an operation (R45): the next primitive of the transaction it is in, or, outside one, what
`resume` does at its point. -/
def operationStep (resume : Point → State → State) (s : State) : State :=
  if s.txn.phase = .complete then resume s.point s else transactionStep s

/-- One engine step of the transaction that sends frame `f` (R45, R165): the next primitive of the one under way,
or the first of a new one with response kind `k` (log entry 22). -/
def frameStep (f : BitVec 48) (k : RespKind) (s : State) : State :=
  if s.txn.phase = .complete then beginTransaction f k s
  else transactionStep { s with txn := { s.txn with frame := f } }

end Sys2Proof.Machine
end

