-- ==== Sys2Proof/Machine/CardProtocol.lean ====
section
/-! DEFINITION. The Card Command Protocol unit's host operations: INIT (40_card_protocol.md R186), SENDCMD (R190) and RDBLK (R195). -/

namespace Sys2Proof.Machine

/-! ## INIT: the initialization state machine (R178-R186) -/

/-- `Fail(step)` (R185). -/
def initFail (failed : Byte) (a n : Nat) (s : State) : State :=
  finish codeInitFail { s with result := initResult a n failed }

/-- INIT's start: clear `card_ready` and `mounted` (R180), then PowerUp's `CS(DESEL)` (R178). -/
def initStart (s : State) : State :=
  (driveCs .desel { s with cardReady := false, mounted := false }).atPoint (.init .powered)

/-- CMD0 attempt `a` (R182). -/
def initGoIdle (a : Nat) (s : State) : State :=
  sendCommand (.init (.goIdle a)) (cmd0Frame s.cfg) .r1 s

/-- CMD8 (R183). -/
def initIfCond (a : Nat) (s : State) : State :=
  sendCommand (.init (.ifCond a)) (cmd8Frame s.cfg) .r7 s

/-- CMD55 of iteration `n` (R184). -/
def initAppCmd (a n : Nat) (s : State) : State :=
  sendCommand (.init (.appCmd a n)) (cmd55Frame s.cfg) .r1 s

/-- ACMD41 of iteration `n` (R184). -/
def initOpCond (a n : Nat) (s : State) : State :=
  sendCommand (.init (.opCond a n)) (acmd41Frame s.cfg) .r1 s

/-- The end of an unsuccessful AppInit iteration (R184): fail after the last attempt, else the pacing delay. -/
def initRetry (a n : Nat) (s : State) : State :=
  if s.cfg.appAttempts ≤ n then initFail 3 a n s
  else (delay s.cfg.paceMs s).atPoint (.init (.paced a n))

/-- The echo test of InterfaceCheck (R179, R183): no field test holds on the trailing word NONE (R163). -/
def echoOk (s : State) : Bool :=
  match s.txn.word with
  | some t => t.extractLsb' 0 8 == s.cfg.checkPattern
  | none => false

/-- INIT outside its transactions (R178, R182-R185). A point of another operation, which no reachable state has
while INIT runs, reads as the start (log entry 11). -/
def resumeInit (p : Point) (s : State) : State :=
  match p with
  | .init .powered => (delay s.cfg.settleMs s).atPoint (.init (.fillers s.cfg.pwrupFillers))
  | .init (.fillers 0) => initGoIdle 1 s
  | .init (.fillers (k + 1)) => (fill s).atPoint (.init (.fillers k))
  | .init (.goIdle a) =>
    if s.txn.r1 = idleCode then initIfCond a s
    else if s.cfg.idleAttempts ≤ a then initFail 1 a 0 s
    else initGoIdle (a + 1) s
  | .init (.ifCond a) =>
    if isErr s.txn.r1 then initFail 2 a 0 s
    else if echoOk s then initAppCmd a 1 s
    else initFail 2 a 0 s
  | .init (.appCmd a n) => if isErr s.txn.r1 then initRetry a n s else initOpCond a n s
  | .init (.opCond a n) =>
    if s.txn.r1 = readyCode then (delay s.cfg.ocrSettleMs s).atPoint (.init (.ocrSettled a n))
    else initRetry a n s
  | .init (.paced a n) => initAppCmd a (n + 1) s
  | .init (.ocrSettled a n) => sendCommand (.init (.readOcr a n)) (cmd58Frame s.cfg) .r3 s
  | .init (.readOcr a n) => finish codeOk { s with cardReady := true, result := initResult a n 0 }
  | _ => initStart s

/-- INIT, OPC 0x01 (R186). -/
def execInit (s : State) : Host.Outcome State Fault Refusal := .next (operationStep resumeInit s)

/-! ## SENDCMD -/

/-- The response kind RTYPE selects (R190); RTYPE = 3 selects none. -/
def kindOf (rtype : BitVec 2) : Option RespKind :=
  if rtype = 0 then some .r1 else if rtype = 1 then some .r3 else if rtype = 2 then some .r7 else none

/-- SENDCMD outside its transaction (R190): OK whenever the bracket completes. -/
def resumeSendcmd (idx : BitVec 6) (rtype : BitVec 2) (chk : Byte) (p : Point) (s : State) : State :=
  match p with
  | .sendcmd => finish codeOk s
  | _ =>
    match kindOf rtype with
    | some k => sendCommand .sendcmd (frameWord s.cfg idx s.latch.arg chk) k s
    | none => finish codeIllegalOp s

/-- SENDCMD, OPC 0x02 (R190). -/
def execSendcmd (idx : BitVec 6) (rtype : BitVec 2) (chk : Byte) (s : State) : Host.Outcome State Fault Refusal :=
  .next (operationStep (resumeSendcmd idx rtype chk) s)

/-! ## RDBLK -/

/-- RDBLK outside its transaction (R195): the read succeeded when its token is 0xFE (R173). -/
def resumeRdblk (p : Point) (s : State) : State :=
  match p with
  | .rdblk => if s.txn.tok = dataStart then finish codeOk s else finish codeReadErr s
  | _ => if s.cardReady then blockRead .rdblk s.latch.arg s else finish codeNotReady s

/-- RDBLK, OPC 0x03 (R195). -/
def execRdblk (s : State) : Host.Outcome State Fault Refusal := .next (operationStep resumeRdblk s)

end Sys2Proof.Machine
end

