-- ==== Sys2Proof/Machine/Diagnostics.lean ====
section
/-! DEFINITION. The Diagnostics unit's host operations: DECR1 (42_diagnostics.md R262), DECR3 (R264) and DECR7 (R266), pure functions of the operand latch (R260). -/

namespace Sys2Proof.Machine

/-- DECR1 at any point (R262): only `lat_arg[7:0]` counts. -/
def resumeDecr1 (_p : Point) (s : State) : State :=
  finish codeOk { s with result := classR1 (s.latch.arg.extractLsb' 0 8) }

/-- DECR1, OPC 0x08 (R262). -/
def execDecr1 (s : State) : Host.Outcome State Fault Refusal := .next (operationStep resumeDecr1 s)

/-- DECR3 at any point (R264). -/
def resumeDecr3 (_p : Point) (s : State) : State :=
  finish codeOk { s with result := fieldsR3 s.latch.arg }

/-- DECR3, OPC 0x09 (R264). -/
def execDecr3 (s : State) : Host.Outcome State Fault Refusal := .next (operationStep resumeDecr3 s)

/-- DECR7 at any point (R266). -/
def resumeDecr7 (_p : Point) (s : State) : State :=
  finish codeOk { s with result := fieldsR7 s.cfg s.latch.arg }

/-- DECR7, OPC 0x0A (R266). -/
def execDecr7 (s : State) : Host.Outcome State Fault Refusal := .next (operationStep resumeDecr7 s)

end Sys2Proof.Machine
end

