-- ==== Sys2Proof/Machine/Frames.lean ====
section
/-! DEFINITION. The meanings of the seven SDFRAME rows: one step of the transaction that sends that frame (30_encoding.md R119; 40_card_protocol.md R165, R170, R182-R185). The response kind of a transaction under way is its caller's (R119, R190). -/

namespace Sys2Proof.Machine

/-- CMD0, the go-idle command, R1 (R119, R182). -/
def execCmd0 (s : State) : Host.Outcome State Fault Refusal := .next (frameStep (cmd0Frame s.cfg) .r1 s)

/-- CMD8, the interface-condition command, R7 (R119, R183). -/
def execCmd8 (s : State) : Host.Outcome State Fault Refusal := .next (frameStep (cmd8Frame s.cfg) .r7 s)

/-- CMD55, "next command is application-specific", R1 (R119, R184). -/
def execCmd55 (s : State) : Host.Outcome State Fault Refusal := .next (frameStep (cmd55Frame s.cfg) .r1 s)

/-- ACMD41, the operating-condition command, R1 (R119, R184). -/
def execAcmd41 (s : State) : Host.Outcome State Fault Refusal := .next (frameStep (acmd41Frame s.cfg) .r1 s)

/-- CMD58, read the Operation Conditions Register, R3 (R119, R185). -/
def execCmd58 (s : State) : Host.Outcome State Fault Refusal := .next (frameStep (cmd58Frame s.cfg) .r3 s)

/-- CMD17, the single-block read, R1 and a data block (R119, R170). -/
def execCmd17 (sector : Word) (s : State) : Host.Outcome State Fault Refusal :=
  .next (frameStep (cmd17Frame s.cfg sector) .data s)

/-- Any other frame, as SENDCMD sends it (R150, R190). -/
def execSdframe (idx : BitVec 6) (arg : Word) (chk : Byte) (s : State) : Host.Outcome State Fault Refusal :=
  .next (frameStep (frameWord s.cfg idx arg chk) .r1 s)

end Sys2Proof.Machine
end

