-- ==== Sys2Proof/Machine/Volume.lean ====
section
/-! DEFINITION. The Volume Reader unit's host operations: MOUNT (41_volume_reader.md R210), C2S (R221), NORM (R231) and RDFILE (R240). -/

namespace Sys2Proof.Machine

/-! ## MOUNT -/

/-- The commit of R215 and MOUNT's OK. -/
def commitMount (u : Word) (s : State) : State :=
  finish codeOk { s with geo := s.geometryOf u, mounted := true }

/-- MOUNT outside its transactions (R210). -/
def resumeMount (p : Point) (s : State) : State :=
  match p with
  | .mount .sector0 =>
    if s.txn.tok ≠ dataStart then finish codeReadErr s
    else if jumpOk (s.sbByte 0) then commitMount 0 s
    else if s.mbrOk then blockRead (.mount (.partition s.partitionStart)) s.partitionStart s
    else finish codeMbrSigErr s
  | .mount (.partition u) =>
    if s.txn.tok ≠ dataStart then finish codeReadErr s
    else if jumpOk (s.sbByte 0) then commitMount u s
    else finish codeBootSigErr s
  | _ =>
    if s.cardReady then blockRead (.mount .sector0) 0 { s with mounted := false }
    else finish codeNotReady s

/-- MOUNT, OPC 0x04 (R210). -/
def execMount (s : State) : Host.Outcome State Fault Refusal := .next (operationStep resumeMount s)

/-! ## C2S -/

/-- C2S at any point (R221): no bus primitive. -/
def resumeC2s (_p : Point) (s : State) : State :=
  finish codeOk { s with result := s.sectorOf s.latch.arg }

/-- C2S, OPC 0x05 (R221). -/
def execC2s (s : State) : Host.Outcome State Fault Refusal := .next (operationStep resumeC2s s)

/-! ## NORM -/

/-- NORM at any point (R231): no bus primitive. -/
def resumeNorm (_p : Point) (s : State) : State :=
  match s.latchedShortName with
  | some n => finish codeOk (s.withNorm n)
  | none => finish codeNameTooLong s

/-- NORM, OPC 0x06 (R231). -/
def execNorm (s : State) : Host.Outcome State Fault Refusal := .next (operationStep resumeNorm s)

/-! ## RDFILE -/

/-- What a scan of directory entries finds first (R240). -/
inductive ScanResult where
  | terminator
  | found (c z : Word)
  | exhausted
  deriving DecidableEq, Repr

/-- The entries `es` of the sector in SB, in order (R240, R244, R245): per entry the terminator test, then the
match test. -/
def scanEntries (s : State) (target : List Byte) : List Nat → ScanResult
  | [] => .exhausted
  | e :: es =>
    if s.sbByte (32 * e) = 0x00 then .terminator
    else if attrOk s.cfg.attrMatch (s.sbByte (32 * e + 11)) && s.entryName (32 * e) == target then
      .found (s.entryCluster (32 * e)) (s.entrySize (32 * e))
    else scanEntries s target es

/-- The 16 entries of the sector in SB (R240, R241). -/
def scanSector (s : State) (target : List Byte) : ScanResult := scanEntries s target (List.range 16)

/-- The read of root-directory sector `s0 + k`, or NOT_FOUND at the end of the scan extent (R240, R241). -/
def readDirectory (k : Nat) (target : List Byte) (s0 : Word) (s : State) : State :=
  if k < s.cfg.rootScanSectors then
    blockRead (.rdfile (.directory k target s0)) (s0 + BitVec.ofNat 32 k) s
  else finish codeNotFound s

/-- RDFILE's start (R240): usage error first, then NORM, then the mounted gate, then the first read. -/
def startRdfile (s : State) : State :=
  match s.latchedShortName with
  | none => finish codeNameTooLong s
  | some n =>
    if s.mounted then readDirectory 0 n (s.sectorOf s.geo.rootclus) (s.withNorm n)
    else finish codeNotMounted (s.withNorm n)

/-- RDFILE outside its transactions (R240). -/
def resumeRdfile (p : Point) (s : State) : State :=
  match p with
  | .rdfile (.directory k target s0) =>
    if s.txn.tok ≠ dataStart then finish codeReadErr s
    else
      match scanSector s target with
      | .terminator => finish codeNotFound s
      | .found c z => blockRead (.rdfile (.file c z)) (s.sectorOf c) s
      | .exhausted => readDirectory (k + 1) target s0 s
  | .rdfile (.file c z) =>
    if s.txn.tok ≠ dataStart then finish codeReadErr s
    else finish codeOk { s with fclus := c, fsize := z }
  | _ => startRdfile s

/-- RDFILE, OPC 0x07 (R240). -/
def execRdfile (s : State) : Host.Outcome State Fault Refusal := .next (operationStep resumeRdfile s)

end Sys2Proof.Machine
end

