-- ==== Sys2Proof/Machine/Dispatch.lean ====
section
/-! DEFINITION. exec: one arm per constructor of Instr, each a direct call of that instruction's own meaning. -/

namespace Sys2Proof.Machine

def exec (i : Instr) (s : State) : Host.Outcome State Fault Refusal :=
  match i with
  | .init => Sys2Proof.Machine.execInit s
  | .sendcmd idx rtype chk => Sys2Proof.Machine.execSendcmd idx rtype chk s
  | .rdblk => Sys2Proof.Machine.execRdblk s
  | .mount => Sys2Proof.Machine.execMount s
  | .c2s => Sys2Proof.Machine.execC2s s
  | .norm => Sys2Proof.Machine.execNorm s
  | .rdfile => Sys2Proof.Machine.execRdfile s
  | .decr1 => Sys2Proof.Machine.execDecr1 s
  | .decr3 => Sys2Proof.Machine.execDecr3 s
  | .decr7 => Sys2Proof.Machine.execDecr7 s
  | .cmd0 => Sys2Proof.Machine.execCmd0 s
  | .cmd8 => Sys2Proof.Machine.execCmd8 s
  | .cmd55 => Sys2Proof.Machine.execCmd55 s
  | .acmd41 => Sys2Proof.Machine.execAcmd41 s
  | .cmd58 => Sys2Proof.Machine.execCmd58 s
  | .cmd17 sector => Sys2Proof.Machine.execCmd17 sector s
  | .sdframe idx arg chk => Sys2Proof.Machine.execSdframe idx arg chk s

end Sys2Proof.Machine
end

