-- ==== Sys2Proof/Machine/HostPort.lean ====
section
/-! DEFINITION. The host's side of the block (10_state.md R31-R43, 20_memory.md R81-R83, 70_reset_and_hazards.md R321): register writes, register reads, the SB port, and the pseudo-instructions of 30_encoding.md R132 as lists of accesses. -/

namespace Sys2Proof.Machine

/-! ## Register writes -/

/-- `WR n, v` (R31-R43, R81): CMD requests an operation, STATUS bit 4 clears OVERRUN, ARG, NAMELEN and
NAME0-NAME3 are written, every other index ignores it. -/
def regWrite (n : BitVec 6) (v : Word) (s : State) : State :=
  match n.toNat with
  | 0x00 => writeCmd v s
  | 0x01 => if v.getLsbD 4 then { s with overrun := false } else s
  | 0x02 => { s with arg := v }
  | 0x06 => { s with nameLen := v.extractLsb' 0 5 }
  | 0x07 => { s with name0 := v }
  | 0x08 => { s with name1 := v }
  | 0x09 => { s with name2 := v }
  | 0x0A => { s with name3 := v }
  | _ => s

/-! ## Register reads -/

/-- `Reg[n]` (R31): the exact contents, each field zero-extended (R41), CMD and reserved indices 0 (R32, R43). -/
def regRead (n : BitVec 6) (s : State) : Word :=
  match n.toNat with
  | 0x01 => statusWord s
  | 0x02 => s.arg
  | 0x03 => s.result
  | 0x04 => r1tokWord s
  | 0x05 => s.resp
  | 0x06 => s.nameLen.setWidth 32
  | 0x07 => s.name0
  | 0x08 => s.name1
  | 0x09 => s.name2
  | 0x0A => s.name3
  | 0x0B => s.norm0
  | 0x0C => s.norm1
  | 0x0D => s.norm2
  | 0x0E => s.geo.bps.setWidth 32
  | 0x0F => s.geo.spc.setWidth 32
  | 0x10 => s.geo.rsvd.setWidth 32
  | 0x11 => s.geo.nfats.setWidth 32
  | 0x12 => s.geo.fatsz
  | 0x13 => s.geo.rootclus
  | 0x14 => s.geo.hidden
  | 0x15 => s.geo.totsec
  | 0x16 => s.geo.fds
  | 0x17 => s.geo.totclus
  | 0x18 => s.geo.unused
  | 0x19 => s.fclus
  | 0x1A => s.fsize
  | _ => 0

/-- The registers a read of which returns any value while BUSY = 1 (R97, R321): RESULT, R1TOK, RESP, NORM0-NORM2,
the geometry registers, FCLUS and FSIZE. -/
def isOutput (n : BitVec 6) : Bool :=
  (0x03 ≤ n.toNat && n.toNat ≤ 0x05) || (0x0B ≤ n.toNat && n.toNat ≤ 0x1A)

/-- `RD n`: the register's contents, or a free value for an output register while BUSY = 1 (R321, log entry 4).
The block itself is unchanged (R43, R93); the value is appended to what the host has read. -/
def portRead (n : BitVec 6) (s : State) : State :=
  if s.busy && isOutput n then
    { s with reads := s.reads ++ [.reg n (Config.busyWord s.draws)], draws := s.draws + 1 }
  else { s with reads := s.reads ++ [.reg n (regRead n s)] }

/-! ## The SB port -/

/-- The running operation can perform a block read: RDBLK, MOUNT or RDFILE runs (R83). -/
def blockReading (s : State) : Bool :=
  s.busy && (s.lastOpc == 0x03 || s.lastOpc == 0x04 || s.lastOpc == 0x07)

/-- `SBRD i` (R82, R83): a free value while a block-reading operation runs (R83 (b), which log entry 6 puts before
(a)), else the byte, else the fault of an unwritten byte (R83 (a)). -/
def portSbRead (i : BitVec 9) (s : State) : Host.Outcome State Fault Refusal :=
  if blockReading s then
    .next { s with reads := s.reads ++ [.sb i (Config.busyByte s.draws)], draws := s.draws + 1 }
  else
    match s.sb.read i.toNat with
    | some b => .next { s with reads := s.reads ++ [.sb i b] }
    | none => .fault (.unwrittenSectorByte i)

/-! ## Pseudo-instructions (R132) -/

/-- The pseudo-instructions of R132. -/
inductive Pseudo where
  | init
  | sendcmd (idx : BitVec 6) (arg : Word) (rtype : BitVec 2) (chk : Byte)
  | rdblk (sector : Word)
  | mount
  | c2s (cluster : Word)
  | name (bytes : List Byte)
  | norm
  | rdfile
  | decr1 (v : Word)
  | decr3 (t : Word)
  | decr7 (t : Word)
  deriving DecidableEq, Repr

/-- Name register `r` of a filename, packed by R39, unused bytes 0 (R132). -/
def packName (bytes : List Byte) (r : Nat) : Word :=
  wordOfBytes (bytes.getD (4 * r) 0) (bytes.getD (4 * r + 1) 0) (bytes.getD (4 * r + 2) 0) (bytes.getD (4 * r + 3) 0)

/-- The expansion of a pseudo-instruction into register writes (R132). -/
def expand : Pseudo → List HostMove
  | .init => [.write 0x00 0x00000001]
  | .sendcmd idx arg rtype chk => [.write 0x02 arg, .write 0x00 (chk ++ 0#6 ++ rtype ++ 0#2 ++ idx ++ 0x02#8)]
  | .rdblk sector => [.write 0x02 sector, .write 0x00 0x00000003]
  | .mount => [.write 0x00 0x00000004]
  | .c2s cluster => [.write 0x02 cluster, .write 0x00 0x00000005]
  | .name bytes =>
    [.write 0x06 (BitVec.ofNat 32 bytes.length), .write 0x07 (packName bytes 0), .write 0x08 (packName bytes 1),
      .write 0x09 (packName bytes 2), .write 0x0A (packName bytes 3)]
  | .norm => [.write 0x00 0x00000006]
  | .rdfile => [.write 0x00 0x00000007]
  | .decr1 v => [.write 0x02 v, .write 0x00 0x00000008]
  | .decr3 t => [.write 0x02 t, .write 0x00 0x00000009]
  | .decr7 t => [.write 0x02 t, .write 0x00 0x0000000A]

end Sys2Proof.Machine
end

