-- ==== Sys2Proof/Machine/Engine.lean ====
section
/-! DEFINITION. How the block comes to run an instruction: what the engine executes next (10_state.md R45), one step of the engine, one step of the whole (host or engine, 00_scope.md R20), and the placing of one instruction for the host's probe. -/

namespace Sys2Proof.Machine

/-- What the engine would execute at its next step. -/
inductive Fetched where
  /-- The sequencer is IDLE: nothing (R312). -/
  | nothing
  /-- The instruction under way: the frame of a transaction, or the host operation itself. -/
  | instr (i : Instr)
  /-- The accepted command word is illegal (R114, R281). -/
  | illegal
  /-- The bytes of the transaction under way are no frame; the framer never makes such bytes. -/
  | rawFrame
  deriving DecidableEq, Repr

/-- What the engine executes next (R45): inside a transaction the frame it sends, outside one the operation
whose command word was latched. -/
def fetch (s : State) : Fetched :=
  match s.seq with
  | .idle => .nothing
  | .run _ _ =>
    if s.txn.phase = .complete then
      match decodeHost s.latch.cmd with
      | .ok i => .instr i
      | .error _ => .illegal
    else
      match decodeFrame s.cfg s.txn.frame with
      | .ok i => .instr i
      | .error _ => .rawFrame

/-- One engine step (R45). At IDLE the engine waits (R312): the state stays as it is. -/
def engineStep (s : State) : Host.Outcome State Fault Refusal :=
  match fetch s with
  | .nothing => .next s
  | .instr i => exec i s
  | .illegal => .next (illegalOp s)
  | .rawFrame => .next (transactionStep s)

/-- One step of the whole (R20, R96): the host's next move where there is one, else the engine. `yield` lets the
engine move; `wait` lets it move until BUSY = 0 and then reads STATUS (R131); reset may come at any time (R311).
A configuration outside R13 admits no run. -/
def advance (s : State) : Host.Outcome State Fault Refusal :=
  if s.cfg.admitted then
    match s.moves with
    | [] => engineStep s
    | .yield :: rest => engineStep { s with moves := rest }
    | .wait :: rest => if s.busy then engineStep s else .next (portRead 0x01 { s with moves := rest })
    | .write n v :: rest => .next (regWrite n v { s with moves := rest })
    | .read n :: rest => .next (portRead n { s with moves := rest })
    | .sbRead i :: rest => portSbRead i { s with moves := rest }
    | .reset :: rest => .next (resetBlock { s with moves := rest })
  else .refused .configNotAdmitted

/-! ## Placing one instruction (log entry 7) -/

/-- The engine's step comes next, whatever the host has still to do. -/
def letEngineMove (s : State) : State := { s with moves := .yield :: s.moves }

/-- The state in which a running operation with command word `w` is about to send frame `f`, reading a response
of kind `k`, with ARG latched as `a`, at point `p`. -/
def placeFrame (w a : Word) (p : Point) (f : BitVec 48) (k : RespKind) (s : State) : State :=
  { accept w s with
    latch := { loadLatches w s with arg := a }
    seq := .run (w.extractLsb' 0 8) p
    txn := Txn.fresh f k }

/-- The operation that sends a frame, at the point where it does (R119): INIT for the five bring-up frames, RDBLK
for CMD17, SENDCMD for every other, bytes that are no frame among them. -/
def placeDecoded (f : BitVec 48) (i : Instr) (s : State) : State :=
  match i with
  | .cmd0 => placeFrame 0x00000001 s.arg (.init (.goIdle 1)) f .r1 s
  | .cmd8 => placeFrame 0x00000001 s.arg (.init (.ifCond 1)) f .r7 s
  | .cmd55 => placeFrame 0x00000001 s.arg (.init (.appCmd 1 1)) f .r1 s
  | .acmd41 => placeFrame 0x00000001 s.arg (.init (.opCond 1 1)) f .r1 s
  | .cmd58 => placeFrame 0x00000001 s.arg (.init (.readOcr 1 1)) f .r3 s
  | .cmd17 sector => placeFrame 0x00000003 sector .rdblk f .data s
  | .sdframe idx arg chk => placeFrame (hostWord 0x02 idx 0 chk) arg .sendcmd f .r1 s
  | .init | .sendcmd _ _ _ | .rdblk | .mount | .c2s | .norm | .rdfile | .decr1 | .decr3 | .decr7 =>
    placeFrame (hostWord 0x02 (f.extractLsb' 40 6) 0 (frameByte f 5)) (f.extractLsb' 8 32) .sendcmd f .r1 s

/-- `s` with the instruction whose bits are `w` placed where the engine takes its next one: a command word just
accepted, or a frame about to be sent. -/
def placeWord (s : State) (nbits w : Nat) : State :=
  if nbits ≤ 32 then letEngineMove (accept (BitVec.ofNat 32 w) s)
  else
    letEngineMove
      (placeDecoded (BitVec.ofNat 48 w)
        ((decodeFrame s.cfg (BitVec.ofNat 48 w)).toOption.getD .init) s)

end Sys2Proof.Machine
end

