-- ==== Sys2Proof/Machine/Step.lean ====
section
/-! DEFINITION. The step of the machine and the host's way of placing one instruction; both only call what Machine/Engine.lean defines. -/

namespace Sys2Proof.Machine

/-- One step of the machine (10_state.md R45, 00_scope.md R20). -/
def step (s : State) : Host.Outcome State Fault Refusal := advance s

/-- `s` with one instruction placed where step takes its next one, numbered as spec/opcode_table.json numbers it
(log entries 7 and 8). -/
def State.withFetchWord (s : State) (nbits w : Nat) : State := placeWord s nbits w

end Sys2Proof.Machine
end

