-- ==== Sys2Proof/Safety.lean ====
section
/-! DEFINITION. What claims about runs are stated in: runs of the engine, the invariants the spec gives in prose (10_state.md R44, R47; 20_memory.md R96; 40_card_protocol.md R165-R167), the bus discipline as an acceptor of event histories, and the bound on the engine's remaining steps (70_reset_and_hazards.md R331). -/

namespace Sys2Proof.Machine

/-! ## Runs -/

/-- `n` engine steps with nothing from the host. -/
def engineRun : Nat → State → Host.Outcome State Fault Refusal
  | 0, s => .next s
  | n + 1, s =>
    match engineStep s with
    | .next t => engineRun n t
    | .fault r => .fault r
    | .refused r => .refused r

/-- Instruction `i` executed `n` times in a row. -/
def execRun (i : Instr) : Nat → State → Host.Outcome State Fault Refusal
  | 0, s => .next s
  | n + 1, s =>
    match exec i s with
    | .next t => execRun i n t
    | .fault r => .fault r
    | .refused r => .refused r

/-- The host operations, format HOSTCMD (R111). -/
def isHostOp : Instr → Bool
  | .init | .sendcmd _ _ _ | .rdblk | .mount | .c2s | .norm | .rdfile | .decr1 | .decr3 | .decr7 => true
  | .cmd0 | .cmd8 | .cmd55 | .acmd41 | .cmd58 | .cmd17 _ | .sdframe _ _ _ => false

/-- The six bytes an instruction of format SDFRAME sends, F0 first (R116, R119). -/
def sentBytes (c : Config) (i : Instr) : List Byte :=
  match encode c i with
  | .frame f => frameBytes f
  | .host _ => []

/-- The response kind a frame instruction begins with (R119; SENDCMD's own RTYPE counts for the frames it sends). -/
def frameKind : Instr → RespKind
  | .cmd8 => .r7
  | .cmd58 => .r3
  | .cmd17 _ => .data
  | .cmd0 | .cmd55 | .acmd41 | .sdframe _ _ _ => .r1
  | .init | .sendcmd _ _ _ | .rdblk | .mount | .c2s | .norm | .rdfile | .decr1 | .decr3 | .decr7 => .r1

/-- A bus primitive's event (R17). -/
def isPrimitive : Event → Bool
  | .csEv _ | .xchgEv _ _ | .delayEv _ => true
  | .opStart _ | .opEnd _ => false

/-! ## The two shapes in which an operation's step ends -/

/-- `s` with the running operation ended by code `c` (R285), spelled out. -/
def endedWith (c : Byte) (s : State) : State :=
  { s with code := c, busy := false, done := true, seq := .idle, history := s.history ++ [.opEnd c] }

/-- `s` with the card just selected for the frame `f`, to read a response of kind `k` and to go on at `p` (R165). -/
def selectedFor (p : Point) (f : BitVec 48) (k : RespKind) (s : State) : State :=
  { s with
    seq := .run s.lastOpc p
    cs := .sel
    txn := { frame := f, kind := k, phase := .selected, r1 := 0xFF, word := none, tok := 0xFF }
    history := s.history ++ [.csEv .sel] }

/-- `s` after one exchange that sent `out` (R17): the event with the card's answer, and the answer used up. -/
def exchanged (out : Byte) (s : State) : State :=
  { s with
    cardIn := s.cardIn.tail
    draws := if s.cardIn.isEmpty then s.draws + 1 else s.draws
    history := s.history ++ [.xchgEv out s.nextIn] }

/-- `n` is the 8.3 short name of the first `len` bytes of `name` (R230): `d` is where the first dot stands, or `len`;
the base has at most 8 bytes; base and the first three extension bytes are space-padded and upper-cased. -/
def ShortNameOf (len : Nat) (name n : List Byte) : Prop :=
  ∃ d, d ≤ len ∧ (∀ j < d, name.getD j 0 ≠ 0x2E) ∧ (d < len → name.getD d 0 = 0x2E) ∧ d ≤ 8 ∧ n.length = 11 ∧
    (∀ k < 8, n.getD k 0 = upper (if k < d then name.getD k 0 else 0x20)) ∧
    (∀ k < 3, n.getD (8 + k) 0 = upper (if d + 1 + k < len then name.getD (d + 1 + k) 0 else 0x20))

/-- The name of `len` bytes is too long (R230): over 16 bytes, or no dot among its first nine. -/
def NameTooLong (len : Nat) (name : List Byte) : Prop :=
  16 < len ∨ (9 ≤ len ∧ ∀ j < 9, name.getD j 0 ≠ 0x2E)

/-- Entry `e` of the sector in SB is the terminator (R244). -/
def isTerminator (s : State) (e : Nat) : Prop := s.sbByte (32 * e) = 0x00

/-- Entry `e` of the sector in SB has the archive attribute (R243) and the name `target` (R245). -/
def isMatch (s : State) (target : List Byte) (e : Nat) : Prop :=
  attrOk s.cfg.attrMatch (s.sbByte (32 * e + 11)) = true ∧ ∀ k < 11, s.sbByte (32 * e + k) = target.getD k 0

/-! ## Invariants -/

/-- The sequencer is running an operation (R45). -/
def Sequencer.running : Sequencer → Bool
  | .idle => false
  | .run _ _ => true

/-- The chip-select level at a position of SendCommand (R165): selected from `CS(SEL)` up to `CS(DESEL)`. -/
def csOf : Phase → ChipSelect
  | .start | .deselected | .complete => .desel
  | .selected | .frame _ | .r1Poll _ _ | .trailing _ | .tokenPoll _ _ | .data _ | .crc1 | .crc2 | .settled => .sel

/-- The handshake and the Card Session (R33, R44, R45, R167): BUSY says that the sequencer runs, BUSY and DONE are
never both 1, chip-select follows the transaction, and no transaction is under way while idle. -/
abbrev SessionInv (s : State) : Prop :=
  s.busy = s.seq.running ∧ (s.busy = true → s.done = false) ∧ s.cs = csOf s.txn.phase ∧
    (s.busy = false → s.txn.phase = .complete)

/-- The operation waits inside MOUNT for a block read. -/
def inMount : Point → Bool
  | .mount _ => true
  | .start | .init _ | .sendcmd | .rdblk | .rdfile _ => false

/-- `mounted = 1` implies `card_ready = 1` (R44), and MOUNT past its gate has `card_ready = 1` (R210). -/
abbrev ReadyInv (s : State) : Prop :=
  (s.mounted = true → s.cardReady = true) ∧ (inMount s.point = true → s.cardReady = true)

/-- No status code outside R280 is produced. -/
abbrev CodeInv (s : State) : Prop := s.code.toNat ≤ 9

/-- `NORM2[31:24]` is 0 (R40). -/
abbrev NormInv (s : State) : Prop := s.norm2.extractLsb' 24 8 = 0

/-- The latched filename has its 16 bytes (R46). -/
abbrev LatchInv (s : State) : Prop := s.latch.name.length = 16

/-- How many bytes of SB, from byte 0 on, the position of SendCommand says are written (R172, R173): those of the
data phase so far, and all 512 once a data-start token has been followed by its block. -/
def storedCount (t : Txn) : Nat :=
  match t.phase with
  | .data i => i
  | .crc1 | .crc2 => 512
  | .settled | .deselected | .complete => if t.tok = dataStart then 512 else 0
  | .start | .selected | .frame _ | .r1Poll _ _ | .trailing _ | .tokenPoll _ _ => 0

/-- The sector buffer is in canonical form and its bytes are written as the transaction says (R47, R172), so that
whenever a block read has succeeded the engine finds all 512 bytes written. -/
abbrev SectorInv (s : State) : Prop :=
  s.sb.wf ∧ (∀ a < storedCount s.txn, (s.sb.read a).isSome = true) ∧ storedCount s.txn ≤ 512 ∧
    (∀ got, s.txn.phase = .trailing got → s.txn.tok ≠ dataStart)

/-- Every loop of the block is within its budget (R12, R161, R171, R182, R184). -/
def withinBudget (c : Config) : Point → Phase → Prop
  | .init (.goIdle a), ph | .init (.ifCond a), ph => a ≤ c.idleAttempts ∧ pollsWithin c ph
  | .init (.appCmd a n), ph | .init (.opCond a n), ph | .init (.ocrSettled a n), ph | .init (.readOcr a n), ph =>
    a ≤ c.idleAttempts ∧ n ≤ c.appAttempts ∧ pollsWithin c ph
  | .init (.paced a n), ph => a ≤ c.idleAttempts ∧ n < c.appAttempts ∧ pollsWithin c ph
  | .rdfile (.directory k _ _), ph => k < c.rootScanSectors ∧ pollsWithin c ph
  | .init .powered, ph | .init (.fillers _), ph | .start, ph | .sendcmd, ph | .rdblk, ph | .mount _, ph
  | .rdfile (.file _ _), ph => pollsWithin c ph
where
  pollsWithin (c : Config) : Phase → Prop
    | .r1Poll k _ => k ≤ c.r1PollMax
    | .tokenPoll p _ => p ≤ c.tokenPollMax
    | .trailing got => got.length ≤ 4
    | .data i => i ≤ 512
    | .start | .selected | .frame _ | .crc1 | .crc2 | .settled | .deselected | .complete => True

/-- The loops of the running operation are within their budgets (R12). -/
abbrev BudgetInv (s : State) : Prop := withinBudget s.cfg s.point s.txn.phase

/-! ## The bus discipline (R85, R96, R151, R152, R165-R167) -/

/-- Where an event history stands: between operations, in an operation with the card deselected, or selected with
`sent` exchanges since `CS(SEL)`, counted up to 7 (the settle byte and the six frame bytes). -/
inductive BusState where
  | closed
  | opened
  | selected (sent : Nat)
  deriving DecidableEq, Repr

/-- One event of a disciplined history. Bus events stand only between an OpStart and its OpEnd. After `CS(SEL)` come
the settle byte 0xFF, a byte with marker bits 01, four argument bytes, a byte with the stop bit, then only 0xFF until
`CS(DESEL)`; a deselected card is sent only 0xFF, and a delay happens only while it is deselected. -/
def busAccept (stop : Byte) : BusState → Event → Option BusState
  | .closed, .opStart _ => some .opened
  | .opened, .opEnd _ => some .closed
  | .opened, .delayEv _ => some .opened
  | .opened, .csEv .desel => some .opened
  | .opened, .csEv .sel => some (.selected 0)
  | .opened, .xchgEv out _ => if out = 0xFF then some .opened else none
  | .selected sent, .xchgEv out _ =>
    if sent = 0 then (if out = 0xFF then some (.selected 1) else none)
    else if sent = 1 then (if out.extractLsb' 6 2 = 0b01#2 then some (.selected 2) else none)
    else if sent < 6 then some (.selected (sent + 1))
    else if sent = 6 then (if out &&& stop = stop then some (.selected 7) else none)
    else (if out = 0xFF then some (.selected 7) else none)
  | .selected sent, .csEv .desel => if sent = 7 then some .opened else none
  | _, _ => none

/-- Where a whole history stands; `none` if some event of it is out of place. -/
def busRun (stop : Byte) (h : List Event) : Option BusState := h.foldlM (busAccept stop) .closed

/-- Where the history of a state must stand. -/
def busStateOf (s : State) : BusState :=
  if s.busy then
    match s.txn.phase with
    | .start | .deselected | .complete => .opened
    | .selected => .selected 0
    | .frame i => .selected (i + 1)
    | .r1Poll _ _ | .trailing _ | .tokenPoll _ _ | .data _ | .crc1 | .crc2 | .settled => .selected 7
  else .closed

/-- The frame of the transaction under way has its marker bits and its stop bit, and no more than five of its bytes
are counted as sent before the sixth (R116, R151). -/
abbrev FrameInv (s : State) : Prop :=
  s.txn.phase ≠ .complete →
    frameByte s.txn.frame 0 &&& 0xC0 = 0x40 ∧ frameByte s.txn.frame 5 &&& s.cfg.stopMask = s.cfg.stopMask ∧
      (∀ i, s.txn.phase = .frame i → i ≤ 5)

/-- The event history is disciplined and stands where the state says. -/
abbrev BusInv (s : State) : Prop :=
  SessionInv s ∧ FrameInv s ∧ busRun s.cfg.stopMask s.history = some (busStateOf s)

/-! ## How many engine steps an operation still takes (R331) -/

/-- Steps after the R1 polls of a transaction, its settle, deselect and trailing byte among them (R168). -/
def responseSteps (c : Config) : RespKind → Nat
  | .r1 => 3
  | .r3 | .r7 => 7
  | .data => c.tokenPollMax + 517

/-- Steps of a whole transaction: two chip-select events and the exchanges of R168 at `R1_POLL_MAX` polls. -/
def transactionSteps (c : Config) (k : RespKind) : Nat := 8 + c.r1PollMax + responseSteps c k

/-- An upper bound on the steps a transaction still takes from a position. -/
def transactionLeft (c : Config) (k : RespKind) : Phase → Nat
  | .start => 8 + c.r1PollMax + responseSteps c k
  | .selected => 7 + c.r1PollMax + responseSteps c k
  | .frame i => (6 - min i 5) + c.r1PollMax + responseSteps c k
  | .r1Poll polls _ => (c.r1PollMax - polls) + responseSteps c k
  | .trailing got => (4 - got.length) + 3
  | .tokenPoll polls _ => (c.tokenPollMax - polls) + 517
  | .data i => (512 - i) + 5
  | .crc1 => 4
  | .crc2 => 3
  | .settled => 2
  | .deselected => 1
  | .complete => 0

/-- INIT outside its transactions: an upper bound on the steps still to come (R178, R182-R185, R331). -/
def initLeft (c : Config) : Point → Nat
  | .init (.readOcr _ _) => 1
  | .init (.ocrSettled _ _) => ocr
  | .init (.opCond _ n) => 1 + ocr + (c.appAttempts - n) * (2 * r1 + 1)
  | .init (.appCmd _ n) => r1 + (1 + ocr + (c.appAttempts - n) * (2 * r1 + 1))
  | .init (.paced _ n) => 2 * r1 + (1 + ocr + (c.appAttempts - (n + 1)) * (2 * r1 + 1))
  | .init (.ifCond _) => negotiate
  | .init (.goIdle a) => (c.idleAttempts - a) * r1 + r7 + negotiate
  | .init (.fillers k) => k + idle
  | .init .powered => 1 + c.pwrupFillers + idle
  | .start | .sendcmd | .rdblk | .mount _ | .rdfile _ => 2 + c.pwrupFillers + idle
where
  r1 : Nat := transactionSteps c .r1
  r7 : Nat := transactionSteps c .r7
  ocr : Nat := transactionSteps c .r3 + 1
  negotiate : Nat := 2 * r1 + (1 + ocr + (c.appAttempts - 1) * (2 * r1 + 1))
  idle : Nat := r1 + ((c.idleAttempts - 1) * r1 + r7 + negotiate)

/-- SENDCMD outside its transaction, likewise. -/
def sendcmdLeft (c : Config) : Point → Nat
  | .sendcmd => 1
  | .start | .init _ | .rdblk | .mount _ | .rdfile _ => transactionSteps c .r7 + 1

/-- RDBLK outside its transaction, likewise. -/
def rdblkLeft (c : Config) : Point → Nat
  | .rdblk => 1
  | .start | .init _ | .sendcmd | .mount _ | .rdfile _ => transactionSteps c .data + 1

/-- MOUNT outside its transactions, likewise. -/
def mountLeft (c : Config) : Point → Nat
  | .mount (.partition _) => 1
  | .mount .sector0 => transactionSteps c .data + 1
  | .start | .init _ | .sendcmd | .rdblk | .rdfile _ => 2 * transactionSteps c .data + 1

/-- RDFILE outside its transactions, likewise. -/
def rdfileLeft (c : Config) : Point → Nat
  | .rdfile (.file _ _) => 1
  | .rdfile (.directory k _ _) => (c.rootScanSectors - 1 - k + 1) * transactionSteps c .data + 1
  | .start | .init _ | .sendcmd | .rdblk | .mount _ => (c.rootScanSectors + 1) * transactionSteps c .data + 1

/-- An operation outside its transactions: an upper bound on the steps still to come (R331). -/
def operationLeft (c : Config) (i : Instr) (p : Point) : Nat :=
  match i with
  | .init => initLeft c p
  | .sendcmd _ _ _ => sendcmdLeft c p
  | .rdblk => rdblkLeft c p
  | .mount => mountLeft c p
  | .rdfile => rdfileLeft c p
  | .c2s | .norm | .decr1 | .decr3 | .decr7 => 1
  | .cmd0 | .cmd8 | .cmd55 | .acmd41 | .cmd58 | .cmd17 _ | .sdframe _ _ _ => 1

/-- An upper bound on the engine steps the running operation still takes (R331). -/
def stepsLeft (s : State) : Nat :=
  transactionLeft s.cfg s.txn.kind s.txn.phase +
    match decodeHost s.latch.cmd with
    | .ok i => operationLeft s.cfg i s.point
    | .error _ => 1

/-- The steps an accepted command word may take to complete, at most (R331). -/
def stepBound (c : Config) (w : Word) : Nat :=
  match decodeHost w with
  | .ok i => operationLeft c i .start
  | .error _ => 1

end Sys2Proof.Machine
end

