-- ==== Sys2Proof/Certificates/Slice0/Obligations.lean ====
section
/-! DEFINITION. The statements for the provers. Each docstring names the rules it formalises; all speak of every state, reachable or not, unless a premise names an invariant stated here too. -/

open Sys2Proof Sys2Proof.Machine

/-! ## Encodings -/

/-- R110, R111, R116, R119: decoding an encoded well-formed instruction gives it back, for every operand value and
every configuration. -/
def Obligations.DecodeEncodeAgree : Prop :=
  ∀ (c : Config) (i : Instr), i.wellFormed c = true → decode c (encode c i) = .ok i

/-- R116, R119: a frame that decodes is a frame instruction, well formed, and its encoding is that very frame. -/
def Obligations.DecodedFrameReencodes : Prop :=
  ∀ (c : Config) (f : BitVec 48) (i : Instr), decodeFrame c f = .ok i →
    encode c i = .frame f ∧ i.wellFormed c = true ∧ isHostOp i = false

/-- R110, R111, R134: words and frames written out from the spec decode to the instructions they stand for. -/
def Obligations.SpecWordsDecode : Prop :=
  decodeHost 0x00000001 = .ok .init ∧
  decodeHost 0x87020802 = .ok (.sendcmd 8 2 0x87) ∧
  decodeHost 0x00000003 = .ok .rdblk ∧
  decodeHost 0x00000007 = .ok .rdfile ∧
  decodeHost 0x0000000A = .ok .decr7 ∧
  decodeFrame Config.default 0x400000000095 = .ok .cmd0 ∧
  decodeFrame Config.default 0x510000080080 = .ok (.cmd17 0x00000800) ∧
  decodeFrame Config.default 0x7FFFFFFFFFFF = .ok (.sdframe 63 0xFFFFFFFF 0x7F)

/-- R113, its decoder's part: the reserved fields of a command word are ignored in decoding; it decodes as if they were 0.
(That the accepted word then runs what it decodes to is StepRunsDecodedInstruction.) -/
def Obligations.ReservedFieldsIgnored : Prop :=
  ∀ w : Word,
    (w.extractLsb' 0 8 = 0x02 → decodeHost w = decodeHost (w &&& 0xFF033FFF)) ∧
    (w.extractLsb' 0 8 ≠ 0x02 → decodeHost w = decodeHost (w &&& 0x000000FF))

/-- R111, and R114's reserved opcodes: the command words that decode to nothing are exactly those with a reserved opcode.
That the other illegal word of R114, SENDCMD with RTYPE = 3, decodes, and finishes ILLEGAL_OP in its own meaning, is the
model's reading (DEDUCED, log entry 9). -/
def Obligations.ReservedOpcodesRejected : Prop :=
  ∀ w : Word,
    (decodeHost w = .error (.reservedOpcode (w.extractLsb' 0 8)) ↔
      (w.extractLsb' 0 8 = 0 ∨ 0x0B ≤ (w.extractLsb' 0 8).toNat)) ∧
    ((∃ i, decodeHost w = .ok i) ↔ (1 ≤ (w.extractLsb' 0 8).toNat ∧ (w.extractLsb' 0 8).toNat ≤ 0x0A))

/-- R150: the framer's six bytes, for every index, argument, checksum operand and stop mask. -/
def Obligations.FramerBytes : Prop :=
  ∀ (c : Config) (idx : BitVec 6) (arg : Word) (chk : Byte),
    frameBytes (frameWord c idx arg chk) =
      [0x40 ||| idx.setWidth 8, arg.extractLsb' 24 8, arg.extractLsb' 16 8, arg.extractLsb' 8 8, arg.extractLsb' 0 8,
        chk ||| c.stopMask]

/-- R151: every frame an instruction encodes to carries the stop marker, whatever the checksum operand; a zero
operand is sent as 0x80 at the default mask. -/
def Obligations.StopMarkerOnEveryFrame : Prop :=
  (∀ (c : Config) (idx : BitVec 6) (arg : Word) (chk : Byte),
    frameByte (frameWord c idx arg chk) 5 &&& c.stopMask = c.stopMask) ∧
  (∀ (c : Config) (i : Instr) (f : BitVec 48), encode c i = .frame f → frameByte f 5 &&& c.stopMask = c.stopMask) ∧
  (∀ (idx : BitVec 6) (arg : Word), frameByte (frameWord Config.default idx arg 0x00) 5 = 0x80)

/-- R134: the frames the block emits at the default parameters. -/
def Obligations.DefaultFrames : Prop :=
  sentBytes Config.default .cmd0 = [0x40, 0x00, 0x00, 0x00, 0x00, 0x95] ∧
  sentBytes Config.default .cmd8 = [0x48, 0x00, 0x00, 0x01, 0xAA, 0x87] ∧
  sentBytes Config.default .cmd55 = [0x77, 0x00, 0x00, 0x00, 0x00, 0xE5] ∧
  sentBytes Config.default .acmd41 = [0x69, 0x40, 0x00, 0x00, 0x00, 0xF7] ∧
  sentBytes Config.default .cmd58 = [0x7A, 0x00, 0x00, 0x00, 0x00, 0x80] ∧
  sentBytes Config.default (.cmd17 0x00000800) = [0x51, 0x00, 0x00, 0x08, 0x00, 0x80]

/-! ## The step -/

/-- R20, R45: with the engine to move, step is exec of the operation whose word was latched (outside a transaction) or
of the frame being sent (inside one); a yielding host only takes its own move away; at IDLE the state stays (R312). A
word placed by withFetchWord is run by the very next step. That one execution of an instruction is one engine step, and
the placing of a word, are the model's reading (log entries 1, 2, 7 and 18). -/
def Obligations.StepRunsDecodedInstruction : Prop :=
  (∀ (s : State) (op : Byte) (p : Point) (i : Instr), s.cfg.admitted = true → s.seq = .run op p →
    s.txn.phase = .complete → decodeHost s.latch.cmd = .ok i →
    (s.moves = [] → step s = exec i s) ∧ (∀ rest, s.moves = .yield :: rest → step s = exec i { s with moves := rest })) ∧
  (∀ (s : State) (op : Byte) (p : Point) (i : Instr), s.cfg.admitted = true → s.seq = .run op p →
    s.txn.phase ≠ .complete → decodeFrame s.cfg s.txn.frame = .ok i →
    (s.moves = [] → step s = exec i s) ∧ (∀ rest, s.moves = .yield :: rest → step s = exec i { s with moves := rest })) ∧
  (∀ s : State, s.cfg.admitted = true → s.moves = [] → s.seq = .idle → step s = .next s) ∧
  (∀ (s : State) (w : Nat) (i : Instr), s.cfg.admitted = true → decodeTableWord 32 w = some i →
    step (s.withFetchWord 32 w) = exec i (accept (BitVec.ofNat 32 w) s))

/-- R45, R165: inside a transaction the decoded frame's execution is the transaction's own next step: nothing of the
frame is lost between its bytes and the instruction. -/
def Obligations.StepAdvancesTransaction : Prop :=
  ∀ (s : State) (op : Byte) (p : Point), s.cfg.admitted = true → s.moves = [] → s.seq = .run op p →
    s.txn.phase ≠ .complete → step s = .next (transactionStep s)

/-- R281: an accepted word with a reserved opcode, or SENDCMD with RTYPE = 3, finishes ILLEGAL_OP in one engine step
and changes nothing else. -/
def Obligations.IllegalWordFinishes : Prop :=
  ∀ (s : State) (w : Word), s.cfg.admitted = true → s.moves = [] →
    (w.extractLsb' 0 8 = 0 ∨ 0x0B ≤ (w.extractLsb' 0 8).toNat ∨
      (w.extractLsb' 0 8 = 0x02 ∧ w.extractLsb' 16 2 = 3)) →
    step (accept w s) = .next (endedWith 0x01 (accept w s))

/-- R13: a configuration outside the constraints admits no step. (That fewer than ten power-up fillers are refused too
is log entry 10 and is not claimed here.) -/
def Obligations.ConfigurationRefused : Prop :=
  ∀ s : State,
    (s.cfg.r1PollMax = 0 ∨ s.cfg.idleAttempts = 0 ∨ s.cfg.appAttempts = 0 ∨ s.cfg.tokenPollMax = 0 ∨
      s.cfg.rootScanSectors = 0 ∨ (List.range 8).countP (fun i => s.cfg.stopMask.getLsbD i) ≠ 1 ∨
      s.cfg.checkPattern ≠ s.cfg.cmd8Arg.extractLsb' 0 8) →
    step s = .refused .configNotAdmitted

/-- R45, R282, R285: in every state every instruction answers a next state, and appends exactly one event. Either it is one bus primitive and the
handshake is untouched, or it is OpEnd and the operation is over with that code. -/
def Obligations.OneEventPerStep : Prop :=
  ∀ (i : Instr) (s : State), ∃ t e, exec i s = .next t ∧ t.history = s.history ++ [e] ∧
    ((isPrimitive e = true ∧ t.busy = s.busy ∧ t.done = s.done ∧ t.code = s.code) ∨
      (∃ c, e = .opEnd c ∧ t.code = c ∧ t.busy = false ∧ t.done = true ∧ t.seq = .idle))

/-! ## Diagnostics -/

/-- R261: DECR1 ends OK with RESULT the classification of `lat_arg[7:0]`, bit by bit. -/
def Obligations.Decr1Classifies : Prop :=
  ∀ s : State, s.txn.phase = .complete →
    ∃ r : Word, exec .decr1 s = .next (endedWith 0x00 { s with result := r }) ∧
      (∀ k < 8, r.getLsbD k = s.latch.arg.getLsbD k) ∧
      r.getLsbD 8 = (s.latch.arg.extractLsb' 0 8 == 0xFF) ∧
      r.getLsbD 9 = decide (0x01 < (s.latch.arg.extractLsb' 0 8).toNat) ∧
      r.getLsbD 10 = (s.latch.arg.extractLsb' 0 8 == 0x01) ∧
      r.getLsbD 11 = (s.latch.arg.extractLsb' 0 8 == 0x00) ∧
      (∀ k, 12 ≤ k → r.getLsbD k = false)

/-- R263: DECR3 ends OK with power-up complete, capacity support and the voltage window of the latched word. -/
def Obligations.Decr3Decodes : Prop :=
  ∀ s : State, s.txn.phase = .complete →
    ∃ r : Word, exec .decr3 s = .next (endedWith 0x00 { s with result := r }) ∧
      r.getLsbD 0 = s.latch.arg.getLsbD 31 ∧ r.getLsbD 1 = s.latch.arg.getLsbD 30 ∧
      (∀ k < 9, r.getLsbD (2 + k) = s.latch.arg.getLsbD (15 + k)) ∧ (∀ k, 11 ≤ k → r.getLsbD k = false)

/-- R265: DECR7 ends OK with version, voltage, echo and the echo's match with CHECK_PATTERN. -/
def Obligations.Decr7Decodes : Prop :=
  ∀ s : State, s.txn.phase = .complete →
    ∃ r : Word, exec .decr7 s = .next (endedWith 0x00 { s with result := r }) ∧
      (∀ k < 4, r.getLsbD k = s.latch.arg.getLsbD (28 + k)) ∧
      (∀ k < 4, r.getLsbD (4 + k) = s.latch.arg.getLsbD (8 + k)) ∧
      (∀ k < 8, r.getLsbD (8 + k) = s.latch.arg.getLsbD k) ∧
      r.getLsbD 16 = (s.latch.arg.extractLsb' 0 8 == s.cfg.checkPattern) ∧ (∀ k, 17 ≤ k → r.getLsbD k = false)

/-! ## The volume reader -/

/-- R220: C2S ends OK with RESULT = ((c - 2) × SPC + FDS) mod 2^32, in numbers. -/
def Obligations.C2sMapsClusters : Prop :=
  ∀ s : State, s.txn.phase = .complete →
    ∃ r : Word, exec .c2s s = .next (endedWith 0x00 { s with result := r }) ∧
      (r.toNat : Int) =
        (((s.latch.arg.toNat : Int) - 2) * (s.geo.spc.toNat : Int) + (s.geo.fds.toNat : Int)) % 2 ^ 32

/-- R230: NORM writes the short name of the latched filename into NORM0-NORM2 and ends OK, or ends
NAME_TOO_LONG and writes nothing; one of the two for every name. -/
def Obligations.NormNormalizes : Prop :=
  ∀ s : State, s.txn.phase = .complete → LatchInv s →
    (NameTooLong s.latch.nameLen.toNat s.latch.name → exec .norm s = .next (endedWith 0x06 s)) ∧
    (¬ NameTooLong s.latch.nameLen.toNat s.latch.name →
      ∃ n, ShortNameOf s.latch.nameLen.toNat s.latch.name n ∧
        exec .norm s = .next (endedWith 0x00
          { s with
            norm0 := n.getD 3 0 ++ n.getD 2 0 ++ n.getD 1 0 ++ n.getD 0 0
            norm1 := n.getD 7 0 ++ n.getD 6 0 ++ n.getD 5 0 ++ n.getD 4 0
            norm2 := 0#8 ++ n.getD 10 0 ++ n.getD 9 0 ++ n.getD 8 0 }))

/-- R84, R170, R210, R211: MOUNT ends NOT_READY without a ready card; with one it clears `mounted` and selects the card
to read sector 0. -/
def Obligations.MountStarts : Prop :=
  ∀ s : State, s.txn.phase = .complete → inMount s.point = false →
    (s.cardReady = false → exec .mount s = .next (endedWith 0x08 s)) ∧
    (s.cardReady = true → exec .mount s =
      .next (selectedFor (.mount .sector0) (frameWord s.cfg 17 0 0x00) .data { s with mounted := false }))

/-- R216, R217, R218: MOUNT's success commits the eleven geometry registers from the boot sector in SB, in numbers, with
UNUSED 0 for a boot sector at sector 0 and the partition's start otherwise, sets `mounted` and ends OK. -/
def Obligations.MountCommitsGeometry : Prop :=
  ∀ (s : State) (u : Word), s.txn.phase = .complete → s.txn.tok = 0xFE →
    (s.sbByte 0 = 0xE9 ∨ s.sbByte 0 = 0xEB) →
    (s.point = .mount .sector0 ∧ u = 0 ∨ s.point = .mount (.partition u)) →
    ∃ g : Geometry, exec .mount s = .next (endedWith 0x00 { s with geo := g, mounted := true }) ∧
      g.bps.toNat = (s.sbByte 11).toNat + 2 ^ 8 * (s.sbByte 12).toNat ∧
      g.spc = s.sbByte 13 ∧
      g.rsvd.toNat = (s.sbByte 14).toNat + 2 ^ 8 * (s.sbByte 15).toNat ∧
      g.nfats = s.sbByte 16 ∧
      g.hidden.toNat = (s.sbByte 28).toNat + 2 ^ 8 * (s.sbByte 29).toNat + 2 ^ 16 * (s.sbByte 30).toNat +
        2 ^ 24 * (s.sbByte 31).toNat ∧
      g.totsec.toNat = (s.sbByte 32).toNat + 2 ^ 8 * (s.sbByte 33).toNat + 2 ^ 16 * (s.sbByte 34).toNat +
        2 ^ 24 * (s.sbByte 35).toNat ∧
      g.fatsz.toNat = (s.sbByte 36).toNat + 2 ^ 8 * (s.sbByte 37).toNat + 2 ^ 16 * (s.sbByte 38).toNat +
        2 ^ 24 * (s.sbByte 39).toNat ∧
      g.rootclus.toNat = (s.sbByte 44).toNat + 2 ^ 8 * (s.sbByte 45).toNat + 2 ^ 16 * (s.sbByte 46).toNat +
        2 ^ 24 * (s.sbByte 47).toNat ∧
      g.fds.toNat = (g.hidden.toNat + g.rsvd.toNat + g.nfats.toNat * g.fatsz.toNat) % 2 ^ 32 ∧
      (g.spc = 0 → g.totclus = 0) ∧
      (g.spc ≠ 0 → (g.totclus.toNat : Int) =
        (((g.totsec.toNat : Int) - ((g.rsvd.toNat + g.nfats.toNat * g.fatsz.toNat : Nat) : Int)) % 2 ^ 32) / g.spc.toNat) ∧
      g.unused = u

/-- R211-R214: MOUNT's other ways on: a failed read ends READ_ERR; sector 0 without a jump code is read as an MBR and,
with the signature 55 AA, its first partition's sector is read, else MBR_SIG_ERR; a partition sector without a jump
code ends BOOT_SIG_ERR. -/
def Obligations.MountOtherwise : Prop :=
  (∀ s : State, s.txn.phase = .complete → s.txn.tok ≠ 0xFE → inMount s.point = true →
    exec .mount s = .next (endedWith 0x03 s)) ∧
  (∀ s : State, s.txn.phase = .complete → s.txn.tok = 0xFE → s.point = .mount .sector0 →
    s.sbByte 0 ≠ 0xE9 → s.sbByte 0 ≠ 0xEB →
    (s.sbByte 510 = 0x55 ∧ s.sbByte 511 = 0xAA →
      ∃ u : Word, u.toNat = (s.sbByte 454).toNat + 2 ^ 8 * (s.sbByte 455).toNat + 2 ^ 16 * (s.sbByte 456).toNat +
          2 ^ 24 * (s.sbByte 457).toNat ∧
        exec .mount s = .next (selectedFor (.mount (.partition u)) (frameWord s.cfg 17 u 0x00) .data s)) ∧
    (¬ (s.sbByte 510 = 0x55 ∧ s.sbByte 511 = 0xAA) → exec .mount s = .next (endedWith 0x05 s))) ∧
  (∀ (s : State) (u : Word), s.txn.phase = .complete → s.txn.tok = 0xFE → s.point = .mount (.partition u) →
    s.sbByte 0 ≠ 0xE9 → s.sbByte 0 ≠ 0xEB → exec .mount s = .next (endedWith 0x04 s))

/-- R240, R288: RDFILE's start, in the order of its checks: NAME_TOO_LONG before anything else; then NORM is written;
then NOT_MOUNTED; then the first root-directory sector is read. -/
def Obligations.RdfileStarts : Prop :=
  ∀ s : State, s.txn.phase = .complete → s.point = .start → LatchInv s → s.cfg.admitted = true →
    (NameTooLong s.latch.nameLen.toNat s.latch.name → exec .rdfile s = .next (endedWith 0x06 s)) ∧
    (¬ NameTooLong s.latch.nameLen.toNat s.latch.name →
      ∃ n, ShortNameOf s.latch.nameLen.toNat s.latch.name n ∧
        (s.mounted = false → exec .rdfile s = .next (endedWith 0x09 (s.withNorm n))) ∧
        (s.mounted = true →
          exec .rdfile s = .next (selectedFor
            (.rdfile (.directory 0 n (clusterToSector s.geo.rootclus s.geo.spc s.geo.fds)))
            (frameWord s.cfg 17 (clusterToSector s.geo.rootclus s.geo.spc s.geo.fds) 0x00) .data (s.withNorm n))))

/-- R240-R246: RDFILE after a directory sector. A failed read ends READ_ERR; a terminator before any match ends
NOT_FOUND; the first match before any terminator selects the card to read the file's first sector; neither in 16
entries reads the next sector of the scan extent or ends NOT_FOUND. -/
def Obligations.RdfileScans : Prop :=
  ∀ (s : State) (k : Nat) (target : List Byte) (s0 : Word), s.txn.phase = .complete → target.length = 11 →
    s.point = .rdfile (.directory k target s0) →
    (s.txn.tok ≠ 0xFE → exec .rdfile s = .next (endedWith 0x03 s)) ∧
    (s.txn.tok = 0xFE →
      (∀ e < 16, (∀ j < e, ¬ isTerminator s j ∧ ¬ isMatch s target j) →
        (isTerminator s e → exec .rdfile s = .next (endedWith 0x07 s)) ∧
        (¬ isTerminator s e → isMatch s target e →
          ∃ cl z : Word,
            cl.toNat = (s.sbByte (32 * e + 26)).toNat + 2 ^ 8 * (s.sbByte (32 * e + 27)).toNat +
              2 ^ 16 * (s.sbByte (32 * e + 20)).toNat + 2 ^ 24 * (s.sbByte (32 * e + 21)).toNat ∧
            z.toNat = (s.sbByte (32 * e + 28)).toNat + 2 ^ 8 * (s.sbByte (32 * e + 29)).toNat +
              2 ^ 16 * (s.sbByte (32 * e + 30)).toNat + 2 ^ 24 * (s.sbByte (32 * e + 31)).toNat ∧
            exec .rdfile s = .next (selectedFor (.rdfile (.file cl z))
              (frameWord s.cfg 17 (clusterToSector cl s.geo.spc s.geo.fds) 0x00) .data s))) ∧
      ((∀ j < 16, ¬ isTerminator s j ∧ ¬ isMatch s target j) →
        (k + 1 < s.cfg.rootScanSectors → exec .rdfile s = .next (selectedFor
          (.rdfile (.directory (k + 1) target s0)) (frameWord s.cfg 17 (s0 + BitVec.ofNat 32 (k + 1)) 0x00) .data s)) ∧
        (s.cfg.rootScanSectors ≤ k + 1 → exec .rdfile s = .next (endedWith 0x07 s))))

/-- R42, R240, R242, R247: RDFILE after the file's sector: FCLUS and FSIZE are written and it ends OK if the data-start
token came, else READ_ERR with both unchanged. -/
def Obligations.RdfileCompletes : Prop :=
  ∀ (s : State) (cl z : Word), s.txn.phase = .complete → s.point = .rdfile (.file cl z) →
    (s.txn.tok = 0xFE → exec .rdfile s = .next (endedWith 0x00 { s with fclus := cl, fsize := z })) ∧
    (s.txn.tok ≠ 0xFE → exec .rdfile s = .next (endedWith 0x03 s))

/-! ## The card protocol -/

/-- R178, R180: INIT first clears `card_ready` and `mounted` and performs CS(DESEL), then the settle delay, then the
power-up fillers one by one, then selects the card for the first CMD0. -/
def Obligations.InitPowersUp : Prop :=
  ∀ s : State, s.txn.phase = .complete →
    (s.point = .start → exec .init s = .next
      { s with
        cardReady := false, mounted := false, cs := .desel, seq := .run s.lastOpc (.init .powered)
        history := s.history ++ [.csEv .desel] }) ∧
    (s.point = .init .powered → exec .init s = .next
      { s with
        seq := .run s.lastOpc (.init (.fillers s.cfg.pwrupFillers))
        history := s.history ++ [.delayEv s.cfg.settleMs] }) ∧
    (∀ k, s.point = .init (.fillers (k + 1)) → exec .init s = .next
      { exchanged 0xFF s with seq := .run s.lastOpc (.init (.fillers k)) }) ∧
    (s.point = .init (.fillers 0) → exec .init s = .next
      (selectedFor (.init (.goIdle 1)) (frameWord s.cfg 0 0 s.cfg.initChk.cmd0) .r1 s))

/-- R182, R183: after CMD0 only R1 = 0x01 goes on to CMD8; else the next attempt, or INIT_FAIL step 1 after the last.
After CMD8 an R1 error or a wrong echo is INIT_FAIL step 2; else CMD55. -/
def Obligations.InitIdleAndInterfaceCheck : Prop :=
  (∀ (s : State) (a : Nat), s.txn.phase = .complete → s.point = .init (.goIdle a) →
    (s.txn.r1 = 0x01 → exec .init s = .next
      (selectedFor (.init (.ifCond a)) (frameWord s.cfg 8 s.cfg.cmd8Arg s.cfg.initChk.cmd8) .r7 s)) ∧
    (s.txn.r1 ≠ 0x01 → a < s.cfg.idleAttempts → exec .init s = .next
      (selectedFor (.init (.goIdle (a + 1))) (frameWord s.cfg 0 0 s.cfg.initChk.cmd0) .r1 s)) ∧
    (s.txn.r1 ≠ 0x01 → s.cfg.idleAttempts ≤ a → ∃ r : Word, r.toNat = 2 ^ 8 * (a % 2 ^ 8) + 1 ∧
      exec .init s = .next (endedWith 0x02 { s with result := r }))) ∧
  (∀ (s : State) (a : Nat), s.txn.phase = .complete → s.point = .init (.ifCond a) →
    (∀ t, s.txn.r1.toNat ≤ 1 → s.txn.word = some t → t.extractLsb' 0 8 = s.cfg.checkPattern →
      exec .init s = .next (selectedFor (.init (.appCmd a 1)) (frameWord s.cfg 55 0 s.cfg.initChk.cmd55) .r1 s)) ∧
    ((1 < s.txn.r1.toNat ∨ ∀ t, s.txn.word = some t → t.extractLsb' 0 8 ≠ s.cfg.checkPattern) →
      ∃ r : Word, r.toNat = 2 ^ 8 * (a % 2 ^ 8) + 2 ∧ exec .init s = .next (endedWith 0x02 { s with result := r })))

/-- R184: after CMD55 without an error ACMD41 follows; R1 = 0x00 of ACMD41 goes on to the ReadOCR settle delay; else
the iteration has failed, and after the last one INIT_FAIL step 3, before it the pacing delay and the next CMD55. -/
def Obligations.InitNegotiates : Prop :=
  (∀ (s : State) (a n : Nat), s.txn.phase = .complete → s.point = .init (.appCmd a n) → s.txn.r1.toNat ≤ 1 →
    exec .init s = .next (selectedFor (.init (.opCond a n))
      (frameWord s.cfg 41 s.cfg.acmd41Arg s.cfg.initChk.acmd41) .r1 s)) ∧
  (∀ (s : State) (a n : Nat), s.txn.phase = .complete → s.point = .init (.opCond a n) → s.txn.r1 = 0x00 →
    exec .init s = .next
      { s with
        seq := .run s.lastOpc (.init (.ocrSettled a n)), history := s.history ++ [.delayEv s.cfg.ocrSettleMs] }) ∧
  (∀ (s : State) (a n : Nat), s.txn.phase = .complete →
    (s.point = .init (.appCmd a n) ∧ 1 < s.txn.r1.toNat ∨ s.point = .init (.opCond a n) ∧ s.txn.r1 ≠ 0x00) →
    (n < s.cfg.appAttempts → exec .init s = .next
      { s with seq := .run s.lastOpc (.init (.paced a n)), history := s.history ++ [.delayEv s.cfg.paceMs] }) ∧
    (s.cfg.appAttempts ≤ n → ∃ r : Word, r.toNat = 2 ^ 16 * (n % 2 ^ 16) + 2 ^ 8 * (a % 2 ^ 8) + 3 ∧
      exec .init s = .next (endedWith 0x02 { s with result := r }))) ∧
  (∀ (s : State) (a n : Nat), s.txn.phase = .complete → s.point = .init (.paced a n) →
    exec .init s = .next (selectedFor (.init (.appCmd a (n + 1))) (frameWord s.cfg 55 0 s.cfg.initChk.cmd55) .r1 s))

/-- R185, R186: ReadOCR sends CMD58, and whatever it returned INIT then ends OK with `card_ready` set and the attempt
counts in RESULT. -/
def Obligations.InitCompletes : Prop :=
  ∀ (s : State) (a n : Nat), s.txn.phase = .complete →
    (s.point = .init (.ocrSettled a n) → exec .init s = .next
      (selectedFor (.init (.readOcr a n)) (frameWord s.cfg 58 0 s.cfg.initChk.cmd58) .r3 s)) ∧
    (s.point = .init (.readOcr a n) → ∃ r : Word, r.toNat = 2 ^ 16 * (n % 2 ^ 16) + 2 ^ 8 * (a % 2 ^ 8) ∧
      exec .init s = .next (endedWith 0x00 { s with cardReady := true, result := r }))

/-- R112, R190: SENDCMD selects the card for the frame of its own operands, with the response kind RTYPE says, or ends
ILLEGAL_OP for RTYPE = 3; once the bracket is complete it ends OK, whatever the response was. -/
def Obligations.SendcmdSendsAndCompletes : Prop :=
  (∀ (s : State) (idx : BitVec 6) (rtype : BitVec 2) (chk : Byte), s.txn.phase = .complete → s.point = .start →
    (rtype = 0 → exec (.sendcmd idx rtype chk) s =
      .next (selectedFor .sendcmd (frameWord s.cfg idx s.latch.arg chk) .r1 s)) ∧
    (rtype = 1 → exec (.sendcmd idx rtype chk) s =
      .next (selectedFor .sendcmd (frameWord s.cfg idx s.latch.arg chk) .r3 s)) ∧
    (rtype = 2 → exec (.sendcmd idx rtype chk) s =
      .next (selectedFor .sendcmd (frameWord s.cfg idx s.latch.arg chk) .r7 s)) ∧
    (rtype = 3 → exec (.sendcmd idx rtype chk) s = .next (endedWith 0x01 s))) ∧
  (∀ (s : State) (idx : BitVec 6) (rtype : BitVec 2) (chk : Byte), s.txn.phase = .complete → s.point = .sendcmd →
    exec (.sendcmd idx rtype chk) s = .next (endedWith 0x00 s))

/-- R84, R170, R195: RDBLK ends NOT_READY without a ready card; else it selects the card for CMD17 of the latched sector,
unscaled; once the read is over it ends OK exactly when the token was 0xFE, else READ_ERR. -/
def Obligations.RdblkReadsAndCompletes : Prop :=
  ∀ s : State, s.txn.phase = .complete →
    (s.point = .start → s.cardReady = false → exec .rdblk s = .next (endedWith 0x08 s)) ∧
    (s.point = .start → s.cardReady = true →
      exec .rdblk s = .next (selectedFor .rdblk (frameWord s.cfg 17 s.latch.arg 0x00) .data s)) ∧
    (s.point = .rdblk → s.txn.tok = 0xFE → exec .rdblk s = .next (endedWith 0x00 s)) ∧
    (s.point = .rdblk → s.txn.tok ≠ 0xFE → exec .rdblk s = .next (endedWith 0x03 s))

/-! ## The seven frames -/

/-- R119, R165, R166: executing a frame instruction with no transaction under way selects the card for that frame, to read
the response kind its row of R119 says (log entry 22); the settle
byte follows; after the response read come CS(DESEL) and one trailing byte, and the transaction is complete. -/
def Obligations.FrameBracket : Prop :=
  ∀ (i : Instr) (f : BitVec 48) (s : State), encode s.cfg i = .frame f →
    (s.txn.phase = .complete → exec i s = .next
      { s with
        cs := .sel
        txn := { frame := f, kind := frameKind i, phase := .selected, r1 := 0xFF, word := none, tok := 0xFF }
        history := s.history ++ [.csEv .sel] }) ∧
    (s.txn.phase = .selected → exec i s = .next
      { exchanged 0xFF s with txn := { s.txn with frame := f, phase := .frame 0 } }) ∧
    (s.txn.phase = .settled → exec i s = .next
      { s with
        cs := .desel, txn := { s.txn with frame := f, phase := .deselected }
        history := s.history ++ [.csEv .desel] }) ∧
    (s.txn.phase = .deselected → exec i s = .next
      { exchanged 0xFF s with txn := { s.txn with frame := f, phase := .complete } })

/-- R152: the six bytes of a frame are sent one an exchange, F0 to F5; what the card returns meanwhile is recorded and
otherwise ignored. -/
def Obligations.FrameBytesSentInOrder : Prop :=
  ∀ (i : Instr) (f : BitVec 48) (s : State) (k : Nat) (b : Byte), encode s.cfg i = .frame f →
    s.txn.phase = .frame k → (frameBytes f)[k]? = some b →
    exec i s = .next
      { exchanged b s with
        txn := { s.txn with frame := f, phase := if k = 5 then .r1Poll 0 0xFF else .frame (k + 1) } }

/-- R161, R162: ReadR1 polls with 0xFF while it has seen only 0xFF and polls are left; at the first other byte, or after
`R1_POLL_MAX` polls, R1_LAST is the last byte, and with kind R1 the settle byte ends the read. -/
def Obligations.ReadR1Polls : Prop :=
  ∀ (i : Instr) (f : BitVec 48) (s : State) (k : Nat) (r : Byte), encode s.cfg i = .frame f →
    s.txn.phase = .r1Poll k r →
    (r = 0xFF → k < s.cfg.r1PollMax → exec i s = .next
      { exchanged 0xFF s with txn := { s.txn with frame := f, phase := .r1Poll (k + 1) s.nextIn } }) ∧
    ((r ≠ 0xFF ∨ s.cfg.r1PollMax ≤ k) → s.txn.kind = .r1 → exec i s = .next
      { exchanged 0xFF s with
        r1Last := r
        txn := { s.txn with frame := f, phase := .settled, r1 := r, word := none, tok := 0xFF } })

/-- R163, R164: for R3 and R7 an R1 error (> 0x01) stops the read with RESP unchanged and no trailing word; otherwise
exactly four more bytes are read, and RESP and the trailing word are their big-endian assembly. -/
def Obligations.ReadR37Reads : Prop :=
  ∀ (i : Instr) (f : BitVec 48) (s : State), encode s.cfg i = .frame f →
    (∀ k r, s.txn.phase = .r1Poll k r → (r ≠ 0xFF ∨ s.cfg.r1PollMax ≤ k) → (s.txn.kind = .r3 ∨ s.txn.kind = .r7) →
      (1 < r.toNat → exec i s = .next
        { exchanged 0xFF s with
          r1Last := r
          txn := { s.txn with frame := f, phase := .settled, r1 := r, word := none, tok := 0xFF } }) ∧
      (r.toNat ≤ 1 → exec i s = .next
        { exchanged 0xFF s with
          r1Last := r
          txn := { s.txn with frame := f, phase := .trailing [s.nextIn], r1 := r, word := none, tok := 0xFF } })) ∧
    (∀ got, s.txn.phase = .trailing got → got.length < 4 → exec i s = .next
      { exchanged 0xFF s with txn := { s.txn with frame := f, phase := .trailing (got ++ [s.nextIn]) } }) ∧
    (∀ b1 b2 b3 b4, s.txn.phase = .trailing [b1, b2, b3, b4] → exec i s = .next
      { exchanged 0xFF s with
        resp := b1 ++ b2 ++ b3 ++ b4
        txn := { s.txn with frame := f, phase := .settled, word := some (b1 ++ b2 ++ b3 ++ b4) } })

/-- R171, R173, R174: for a block read an R1 error polls no token and TOKEN_LAST is 0xFF; else tokens are polled while
only 0xFF came and polls are left; any last byte but 0xFE becomes TOKEN_LAST with no data phase. -/
def Obligations.ReadDataPollsToken : Prop :=
  ∀ (i : Instr) (f : BitVec 48) (s : State), encode s.cfg i = .frame f →
    (∀ k r, s.txn.phase = .r1Poll k r → (r ≠ 0xFF ∨ s.cfg.r1PollMax ≤ k) → s.txn.kind = .data →
      (1 < r.toNat → exec i s = .next
        { exchanged 0xFF s with
          r1Last := r, tokenLast := 0xFF
          txn := { s.txn with frame := f, phase := .settled, r1 := r, word := none, tok := 0xFF } }) ∧
      (r.toNat ≤ 1 → 1 ≤ s.cfg.tokenPollMax → exec i s = .next
        { exchanged 0xFF s with
          r1Last := r
          txn := { s.txn with frame := f, phase := .tokenPoll 1 s.nextIn, r1 := r, word := none, tok := 0xFF } })) ∧
    (∀ p b, s.txn.phase = .tokenPoll p b →
      (b = 0xFF → p < s.cfg.tokenPollMax → exec i s = .next
        { exchanged 0xFF s with txn := { s.txn with frame := f, phase := .tokenPoll (p + 1) s.nextIn } }) ∧
      ((b ≠ 0xFF ∨ s.cfg.tokenPollMax ≤ p) → b ≠ 0xFE → exec i s = .next
        { exchanged 0xFF s with
          tokenLast := b, txn := { s.txn with frame := f, phase := .settled, tok := b } }))

/-- R172: on the data-start token 512 bytes are clocked into SB from index 0 up, then two CRC bytes that are stored
nowhere and compared with nothing, then TOKEN_LAST is 0xFE. -/
def Obligations.DataPhaseStores : Prop :=
  ∀ (i : Instr) (f : BitVec 48) (s : State), encode s.cfg i = .frame f →
    (∀ p, s.txn.phase = .tokenPoll p 0xFE → exec i s = .next
      { exchanged 0xFF s with
        sb := s.sb.write 0 s.nextIn, txn := { s.txn with frame := f, phase := .data 1, tok := 0xFE } }) ∧
    (∀ k, s.txn.phase = .data k → k < 512 → exec i s = .next
      { exchanged 0xFF s with sb := s.sb.write k s.nextIn, txn := { s.txn with frame := f, phase := .data (k + 1) } }) ∧
    (s.txn.phase = .data 512 → exec i s = .next
      { exchanged 0xFF s with txn := { s.txn with frame := f, phase := .crc1 } }) ∧
    (s.txn.phase = .crc1 → exec i s = .next
      { exchanged 0xFF s with txn := { s.txn with frame := f, phase := .crc2 } }) ∧
    (s.txn.phase = .crc2 → exec i s = .next
      { exchanged 0xFF s with
        tokenLast := 0xFE, txn := { s.txn with frame := f, phase := .settled, tok := 0xFE } })

/-! ## Frames: what an instruction leaves unchanged -/

/-- R34, R38, R39, R46, R285: no instruction writes ARG, NAMELEN, NAME0-NAME3, the operand latches, OVERRUN, LAST_OPC or
the parameters, and none touches what the host has still to do or has read. -/
def Obligations.InstructionsLeaveHostState : Prop :=
  ∀ (i : Instr) (s t : State), exec i s = .next t →
    t.arg = s.arg ∧ t.nameLen = s.nameLen ∧ t.name0 = s.name0 ∧ t.name1 = s.name1 ∧ t.name2 = s.name2 ∧
    t.name3 = s.name3 ∧ t.latch = s.latch ∧ t.overrun = s.overrun ∧ t.lastOpc = s.lastOpc ∧ t.cfg = s.cfg ∧
    t.moves = s.moves ∧ t.reads = s.reads

/-- R35, R40-R42, R186, R210, R240: each result register is written only by its own operations: RESULT by INIT, C2S and
DECR1-DECR7; NORM by NORM and RDFILE; the geometry by MOUNT; FCLUS and FSIZE by RDFILE; `card_ready` by INIT;
`mounted` by INIT and MOUNT. -/
def Obligations.ResultsWrittenByTheirOwners : Prop :=
  ∀ (i : Instr) (s t : State), exec i s = .next t →
    (i ∉ [.init, .c2s, .decr1, .decr3, .decr7] → t.result = s.result) ∧
    (i ∉ [.norm, .rdfile] → t.norm0 = s.norm0 ∧ t.norm1 = s.norm1 ∧ t.norm2 = s.norm2) ∧
    (i ≠ .mount → t.geo = s.geo) ∧
    (i ≠ .rdfile → t.fclus = s.fclus ∧ t.fsize = s.fsize) ∧
    (i ≠ .init → t.cardReady = s.cardReady) ∧
    (i ∉ [.init, .mount] → t.mounted = s.mounted)

/-- R36, R37, R47, R172: a host operation outside a transaction leaves R1TOK, RESP, SB unchanged; only a transaction
writes them. C2S, NORM and the decoders perform no bus primitive at all. -/
def Obligations.OnlyTransactionsWriteResponses : Prop :=
  (∀ (i : Instr) (s t : State), isHostOp i = true → s.txn.phase = .complete → exec i s = .next t →
    t.r1Last = s.r1Last ∧ t.tokenLast = s.tokenLast ∧ t.resp = s.resp ∧ t.sb = s.sb) ∧
  (∀ (i : Instr) (s t : State), i ∈ [.c2s, .norm, .decr1, .decr3, .decr7] → s.txn.phase = .complete →
    exec i s = .next t →
    t.cs = s.cs ∧ t.txn = s.txn ∧ t.cardIn = s.cardIn ∧ t.draws = s.draws ∧
      ∃ c, t.history = s.history ++ [.opEnd c])

/-- R47, R172: whatever instruction is executed, every byte of SB outside the one it stores reads as before, and the
one it stores reads as the byte just clocked in; an instruction outside a transaction stores none. -/
def Obligations.OnlyTheStoredByteChanges : Prop :=
  ∀ (i : Instr) (s t : State), exec i s = .next t →
    (∀ a, storeIndex s ≠ some a → t.sb.read a = s.sb.read a) ∧
    (∀ a, storeIndex s = some a → a < 512 ∧ t.sb.read a = some s.nextIn) ∧
    (s.txn.phase = .complete → storeIndex s = none)

/-! ## The host's side -/

/-- (The host's accesses are the list of log entry 2.) R32, R33, R34, R38, R39, R43: a host write reaches its own register and no other: ARG, NAMELEN (five bits), NAME0-3;
STATUS clears OVERRUN when bit 4 is 1; a read-only or reserved index ignores it. -/
def Obligations.HostWritesReachTheirRegisters : Prop :=
  ∀ (s : State) (v : Word) (rest : List HostMove) (n : BitVec 6), s.cfg.admitted = true →
    s.moves = .write n v :: rest →
    (n = 0x01 → step s = .next { s with moves := rest, overrun := s.overrun && !v.getLsbD 4 }) ∧
    (n = 0x02 → step s = .next { s with moves := rest, arg := v }) ∧
    (n = 0x06 → step s = .next { s with moves := rest, nameLen := v.extractLsb' 0 5 }) ∧
    (n = 0x07 → step s = .next { s with moves := rest, name0 := v }) ∧
    (n = 0x08 → step s = .next { s with moves := rest, name1 := v }) ∧
    (n = 0x09 → step s = .next { s with moves := rest, name2 := v }) ∧
    (n = 0x0A → step s = .next { s with moves := rest, name3 := v }) ∧
    ((3 ≤ n.toNat ∧ n.toNat ≤ 5 ∨ 0x0B ≤ n.toNat) → step s = .next { s with moves := rest })

/-- (The host's accesses are the list of log entry 2; that acceptance puts the transaction record at Txn.none is the model's
choice, log entry 15, and no rule's.) R46, R286, R287: a write to CMD while BUSY = 0 is accepted in one step: DONE clears, BUSY sets, LAST_OPC and the
operand latches load, OpStart is recorded and the operation is at its start; CODE and every other register stay. While
BUSY = 1 it is dropped: OVERRUN sets and nothing else changes. -/
def Obligations.CommandAcceptedOrDropped : Prop :=
  ∀ (s : State) (w : Word) (rest : List HostMove), s.cfg.admitted = true → s.moves = .write 0x00 w :: rest →
    (s.busy = false →
      ∃ name : List Byte, name.length = 16 ∧
        (∀ j < 16, name.getD j 0 =
          ((if j / 4 = 0 then s.name0 else if j / 4 = 1 then s.name1 else if j / 4 = 2 then s.name2 else s.name3)
            ).extractLsb' (8 * (j % 4)) 8) ∧
        step s = .next
          { s with
            moves := rest, done := false, busy := true, lastOpc := w.extractLsb' 0 8
            latch := { cmd := w, arg := s.arg, nameLen := s.nameLen, name := name }
            seq := .run (w.extractLsb' 0 8) .start, txn := Txn.none
            history := s.history ++ [.opStart (w.extractLsb' 0 8)] }) ∧
    (s.busy = true → step s = .next { s with moves := rest, overrun := true })

/-- R131, R132: a pseudo-instruction with an operand, issued to an idle block, writes ARG and is accepted as the operation it
names, with that operand latched. (The host's accesses are the list of log entry 2.) -/
def Obligations.PseudoInstructionsIssue : Prop :=
  ∀ (s : State) (p : Pseudo) (i : Instr) (a : Word), s.cfg.admitted = true → s.busy = false → s.moves = expand p →
    ((∃ idx rtype chk, p = .sendcmd idx a rtype chk ∧ i = .sendcmd idx rtype chk) ∨ (p = .rdblk a ∧ i = .rdblk) ∨
      (p = .c2s a ∧ i = .c2s) ∨ (p = .decr1 a ∧ i = .decr1) ∨ (p = .decr3 a ∧ i = .decr3) ∨
      (p = .decr7 a ∧ i = .decr7)) →
    ∃ t u, step s = .next t ∧ t.arg = a ∧ step t = .next u ∧ u.moves = [] ∧ u.busy = true ∧
      u.seq = .run u.lastOpc .start ∧ u.latch.arg = a ∧ decodeHost u.latch.cmd = .ok i

/-- R33: the fields of STATUS. -/
def Obligations.StatusFields : Prop :=
  ∀ s : State,
    (statusWord s).getLsbD 0 = s.busy ∧ (statusWord s).getLsbD 1 = s.done ∧
    (statusWord s).getLsbD 2 = s.cardReady ∧ (statusWord s).getLsbD 3 = s.mounted ∧
    (statusWord s).getLsbD 4 = s.overrun ∧ (statusWord s).getLsbD 5 = decide (s.cs = .sel) ∧
    (statusWord s).extractLsb' 6 2 = 0 ∧ (statusWord s).extractLsb' 8 8 = s.code ∧
    (statusWord s).extractLsb' 16 8 = s.lastOpc ∧ (statusWord s).extractLsb' 24 8 = 0

/-- R31, R32, R36, R41, R43, R321: while BUSY = 0 every register reads its exact contents, each field zero-extended, CMD
and reserved indices read 0, and a read changes nothing of the block; STATUS, ARG, NAMELEN and NAME0-NAME3 read exactly
while BUSY = 1 too. -/
def Obligations.RegisterReads : Prop :=
  ∀ (s : State) (n : BitVec 6) (rest : List HostMove), s.cfg.admitted = true → s.moves = .read n :: rest →
    (s.busy = false ∨ n.toNat ≤ 2 ∨ 6 ≤ n.toNat ∧ n.toNat ≤ 0x0A ∨ 0x1B ≤ n.toNat) →
    ∃ v : Word, step s = .next { s with moves := rest, reads := s.reads ++ [.reg n v] } ∧
      (n = 0x00 → v = 0) ∧ (n = 0x01 → v = statusWord s) ∧ (n = 0x02 → v = s.arg) ∧ (n = 0x03 → v = s.result) ∧
      (n = 0x04 → v.extractLsb' 0 8 = s.r1Last ∧ v.extractLsb' 8 8 = s.tokenLast ∧ v.extractLsb' 16 16 = 0) ∧
      (n = 0x05 → v = s.resp) ∧ (n = 0x06 → v.toNat = s.nameLen.toNat) ∧
      (n = 0x07 → v = s.name0) ∧ (n = 0x08 → v = s.name1) ∧ (n = 0x09 → v = s.name2) ∧ (n = 0x0A → v = s.name3) ∧
      (n = 0x0B → v = s.norm0) ∧ (n = 0x0C → v = s.norm1) ∧ (n = 0x0D → v = s.norm2) ∧
      (n = 0x0E → v.toNat = s.geo.bps.toNat) ∧ (n = 0x0F → v.toNat = s.geo.spc.toNat) ∧
      (n = 0x10 → v.toNat = s.geo.rsvd.toNat) ∧ (n = 0x11 → v.toNat = s.geo.nfats.toNat) ∧
      (n = 0x12 → v = s.geo.fatsz) ∧ (n = 0x13 → v = s.geo.rootclus) ∧ (n = 0x14 → v = s.geo.hidden) ∧
      (n = 0x15 → v = s.geo.totsec) ∧ (n = 0x16 → v = s.geo.fds) ∧ (n = 0x17 → v = s.geo.totclus) ∧
      (n = 0x18 → v = s.geo.unused) ∧ (n = 0x19 → v = s.fclus) ∧ (n = 0x1A → v = s.fsize) ∧
      (0x1B ≤ n.toNat → v = 0)

/-- R97, R321: while BUSY = 1 a read of an output register returns some value and changes nothing of the block. The value
is a free one; nothing is claimed of it. -/
def Obligations.OutputsWhileBusy : Prop :=
  ∀ (s : State) (n : BitVec 6) (rest : List HostMove), s.cfg.admitted = true → s.moves = .read n :: rest →
    s.busy = true → (3 ≤ n.toNat ∧ n.toNat ≤ 5 ∨ 0x0B ≤ n.toNat ∧ n.toNat ≤ 0x1A) →
    ∃ v : Word, step s = .next { s with moves := rest, reads := s.reads ++ [.reg n v], draws := s.draws + 1 }

/-- R82, R83: the SB port returns the byte; an unwritten byte faults; while RDBLK, MOUNT or RDFILE runs it returns some
byte (that this comes before the fault for an unwritten byte is the model's choice, log entry 6). -/
def Obligations.SectorBufferPort : Prop :=
  ∀ (s : State) (i : BitVec 9) (rest : List HostMove), s.cfg.admitted = true → s.moves = .sbRead i :: rest →
    (s.busy = true ∧ (s.lastOpc = 0x03 ∨ s.lastOpc = 0x04 ∨ s.lastOpc = 0x07) →
      ∃ b, step s = .next { s with moves := rest, reads := s.reads ++ [.sb i b], draws := s.draws + 1 }) ∧
    (¬ (s.busy = true ∧ (s.lastOpc = 0x03 ∨ s.lastOpc = 0x04 ∨ s.lastOpc = 0x07)) →
      (∀ b, s.sb.read i.toNat = some b →
        step s = .next { s with moves := rest, reads := s.reads ++ [.sb i b] }) ∧
      (s.sb.read i.toNat = none → step s = .fault (.unwrittenSectorByte i)))

/-- R50, R311: reset at any time puts the block in its reset state: an operation under way is abandoned with no code.
(That a reset is one of the host's listed moves is log entry 2.) -/
def Obligations.ResetAtAnyTime : Prop :=
  ∀ (s : State) (rest : List HostMove), s.cfg.admitted = true → s.moves = .reset :: rest →
    ∃ t, step s = .next t ∧ t.cs = .desel ∧ t.cardReady = false ∧ t.mounted = false ∧ t.busy = false ∧
      t.done = false ∧ t.overrun = false ∧ t.code = 0x00 ∧ t.lastOpc = 0x00 ∧ t.seq = .idle ∧
      t.arg = 0 ∧ t.result = 0 ∧ t.r1Last = 0xFF ∧ t.tokenLast = 0xFF ∧ t.resp = 0 ∧ t.nameLen = 0 ∧
      t.name0 = 0 ∧ t.name1 = 0 ∧ t.name2 = 0 ∧ t.name3 = 0 ∧ t.norm0 = 0 ∧ t.norm1 = 0 ∧ t.norm2 = 0 ∧
      t.geo = Geometry.zero ∧ t.fclus = 0 ∧ t.fsize = 0 ∧
      t.latch = { cmd := 0, arg := 0, nameLen := 0, name := List.replicate 16 0 } ∧
      (∀ a, t.sb.read a = none) ∧ t.history = []

/-! ## Invariants -/

/-- R50: the state after reset meets every invariant below. -/
def Obligations.ResetMeetsInvariants : Prop :=
  State.reset.cfg.admitted = true ∧ SessionInv State.reset ∧ ReadyInv State.reset ∧ CodeInv State.reset ∧
    NormInv State.reset ∧ LatchInv State.reset ∧ SectorInv State.reset ∧ BudgetInv State.reset ∧ BusInv State.reset

/-- R33, R44, R167: the handshake and the Card Session hold along every run: whenever BUSY = 0 the card is deselected. -/
def Obligations.SessionKept : Prop :=
  ∀ s t : State, SessionInv s → step s = .next t → SessionInv t ∧ (t.busy = false → t.cs = .desel)

/-- R44: `mounted = 1` implies `card_ready = 1`, kept by every step. -/
def Obligations.MountedImpliesReadyKept : Prop :=
  ∀ s t : State, ReadyInv s → step s = .next t → ReadyInv t

/-- R40, R46, R280: no step produces a reserved status code, sets NORM2[31:24], or latches a name of another length. -/
def Obligations.RegisterFormsKept : Prop :=
  ∀ s t : State, CodeInv s → NormInv s → LatchInv s → step s = .next t → CodeInv t ∧ NormInv t ∧ LatchInv t

/-- R47, R172, R173: the sector buffer stays in canonical form and whenever a read's token is 0xFE at the end of its
transaction all 512 bytes are written, so that the engine never reads an unwritten byte. -/
def Obligations.SectorBufferKept : Prop :=
  ∀ s t : State, SectorInv s → step s = .next t →
    SectorInv t ∧ (t.txn.phase = .complete → t.txn.tok = 0xFE → ∀ a < 512, (t.sb.read a).isSome = true)

/-- R12, R161, R171, R182, R184, R241: no loop of the block ever exceeds its budget. -/
def Obligations.BudgetsKept : Prop :=
  ∀ s t : State, BudgetInv s → step s = .next t → BudgetInv t

/-- R85, R96, R151, R152, R165-R167: the event history stays disciplined: bus events only inside an operation, every
selection followed by settle byte, a well-formed frame, only fillers, and a deselect, with nothing nested. -/
def Obligations.BusDisciplineKept : Prop :=
  ∀ s t : State, BusInv s → step s = .next t → BusInv t

/-! ## Bounded completion -/

/-- R331: while an operation runs the engine always has a step, and each step ends it or brings its end nearer. -/
def Obligations.EngineStepsCountDown : Prop :=
  ∀ s : State, s.seq.running = true →
    ∃ t, engineStep s = .next t ∧ (t.seq = .idle ∧ t.busy = false ∧ t.done = true ∨
      t.seq.running = true ∧ stepsLeft t < stepsLeft s)

/-- R331: every accepted operation reaches `finish` within the bound its rule gives, whatever the card answers. -/
def Obligations.AcceptedOperationsFinish : Prop :=
  ∀ (s : State) (w : Word), ∃ n t, n ≤ stepBound s.cfg w ∧ engineRun n (accept w s) = .next t ∧
    t.busy = false ∧ t.done = true ∧ t.seq = .idle

/-! ## Whole transactions -/

/-- R165, R168: a whole R1 transaction of CMD0, CMD55, ACMD41 or any generic frame. With `j < R1_POLL_MAX` bytes 0xFF and
then `r ≠ 0xFF` from the card, after `j + 12` steps it is complete with R1_LAST = `r`; the history has grown by exactly
the bracket, with `(j + 1) + 9` exchanges. -/
def Obligations.R1TransactionRuns : Prop :=
  ∀ (i : Instr) (s : State) (f0 f1 f2 f3 f4 f5 a0 a1 a2 a3 a4 a5 a6 r z0 z1 : Byte) (j : Nat) (rest : List Byte),
    (i = .cmd0 ∨ i = .cmd55 ∨ i = .acmd41 ∨ ∃ idx arg chk, i = .sdframe idx arg chk) →
    sentBytes s.cfg i = [f0, f1, f2, f3, f4, f5] → s.txn.phase = .complete → j < s.cfg.r1PollMax → r ≠ 0xFF →
    s.cardIn = [a0, a1, a2, a3, a4, a5, a6] ++ List.replicate j 0xFF ++ [r, z0, z1] ++ rest →
    ∃ t, execRun i (j + 12) s = .next t ∧ t.txn.phase = .complete ∧ t.txn.r1 = r ∧ t.r1Last = r ∧ t.resp = s.resp ∧
      t.tokenLast = s.tokenLast ∧ t.sb = s.sb ∧ t.cs = .desel ∧ t.cardIn = rest ∧
      t.history = s.history ++ [.csEv .sel, .xchgEv 0xFF a0, .xchgEv f0 a1, .xchgEv f1 a2, .xchgEv f2 a3,
          .xchgEv f3 a4, .xchgEv f4 a5, .xchgEv f5 a6] ++ List.replicate j (.xchgEv 0xFF 0xFF) ++
        [.xchgEv 0xFF r, .xchgEv 0xFF z0, .csEv .desel, .xchgEv 0xFF z1]

/-- R163, R165, R168: a whole R7 transaction of CMD8 or R3 transaction of CMD58 whose R1 byte is no error: four more
exchanges, and RESP holds the four bytes in wire order. -/
def Obligations.R37TransactionRuns : Prop :=
  ∀ (i : Instr) (s : State) (f0 f1 f2 f3 f4 f5 a0 a1 a2 a3 a4 a5 a6 r b1 b2 b3 b4 z0 z1 : Byte) (j : Nat)
    (rest : List Byte),
    (i = .cmd8 ∨ i = .cmd58) → sentBytes s.cfg i = [f0, f1, f2, f3, f4, f5] → s.txn.phase = .complete →
    j < s.cfg.r1PollMax → r.toNat ≤ 1 →
    s.cardIn = [a0, a1, a2, a3, a4, a5, a6] ++ List.replicate j 0xFF ++ [r, b1, b2, b3, b4, z0, z1] ++ rest →
    ∃ t, execRun i (j + 16) s = .next t ∧ t.txn.phase = .complete ∧ t.txn.r1 = r ∧ t.r1Last = r ∧
      t.txn.word = some (b1 ++ b2 ++ b3 ++ b4) ∧ t.resp = b1 ++ b2 ++ b3 ++ b4 ∧
      t.tokenLast = s.tokenLast ∧ t.sb = s.sb ∧ t.cs = .desel ∧ t.cardIn = rest ∧
      t.history = s.history ++ [.csEv .sel, .xchgEv 0xFF a0, .xchgEv f0 a1, .xchgEv f1 a2, .xchgEv f2 a3,
          .xchgEv f3 a4, .xchgEv f4 a5, .xchgEv f5 a6] ++ List.replicate j (.xchgEv 0xFF 0xFF) ++
        [.xchgEv 0xFF r, .xchgEv 0xFF b1, .xchgEv 0xFF b2, .xchgEv 0xFF b3, .xchgEv 0xFF b4, .xchgEv 0xFF z0,
          .csEv .desel, .xchgEv 0xFF z1]

/-- R170-R173: a whole block read by CMD17 whose R1 byte is no error and whose data-start token comes: SB holds the 512
bytes the card sent, the two CRC bytes are ignored, R1TOK holds the pair. -/
def Obligations.BlockReadRuns : Prop :=
  ∀ (s : State) (sector : Word) (pre data : List Byte) (r c0 c1 z0 z1 : Byte) (j p : Nat) (rest : List Byte),
    s.txn.phase = .complete → pre.length = 7 → data.length = 512 → j < s.cfg.r1PollMax → p < s.cfg.tokenPollMax →
    r.toNat ≤ 1 →
    s.cardIn = pre ++ List.replicate j 0xFF ++ [r] ++ List.replicate p 0xFF ++ [0xFE] ++ data ++ [c0, c1, z0, z1] ++ rest →
    ∃ t, execRun (.cmd17 sector) (j + p + 527) s = .next t ∧ t.txn.phase = .complete ∧ t.r1Last = r ∧
      t.tokenLast = 0xFE ∧ t.txn.r1 = r ∧ t.txn.tok = 0xFE ∧ t.cs = .desel ∧ t.resp = s.resp ∧ t.cardIn = rest ∧
      (∀ a < 512, t.sb.read a = data[a]?)
end

