-- ==== Sys2Proof/Laws/Decode.lean ====
section
/-! SUPPORT. The fields of a frame the framer makes (30_encoding.md R116) and of a command word the encoder makes (R110): each reads back as it was put in, and no two frames of different operands agree. -/

namespace Sys2Proof

theorem frameWord_index (c : Config) (idx : BitVec 6) (arg : Word) (chk : Byte) :
    (frameWord c idx arg chk).extractLsb' 40 6 = idx := by
  unfold frameWord; ext i hi; simp; grind

theorem frameWord_argument (c : Config) (idx : BitVec 6) (arg : Word) (chk : Byte) :
    (frameWord c idx arg chk).extractLsb' 8 32 = arg := by
  unfold frameWord; ext i hi; simp; grind

theorem frameWord_marker (c : Config) (idx : BitVec 6) (arg : Word) (chk : Byte) :
    (frameWord c idx arg chk).extractLsb' 46 2 = 0b01#2 := by
  unfold frameWord; ext i hi; simp; grind

theorem frameByte_five (c : Config) (idx : BitVec 6) (arg : Word) (chk : Byte) :
    frameByte (frameWord c idx arg chk) 5 = checksumByte c chk := by
  unfold frameByte frameWord; ext i hi; simp; grind

theorem checksumByte_stop (c : Config) (chk : Byte) : checksumByte c chk &&& c.stopMask = c.stopMask := by
  unfold checksumByte; ext i hi; simp; grind

theorem noStop_checksumByte (c : Config) (chk : Byte) : noStop c (checksumByte c chk) = noStop c chk := by
  unfold noStop checksumByte; ext i hi; simp; grind

theorem noStop_noStop (c : Config) (chk : Byte) : noStop c (noStop c chk) = noStop c chk := by
  unfold noStop; ext i hi; simp

theorem noStop_of_disjoint (c : Config) (chk : Byte) (h : chk &&& c.stopMask = 0) : noStop c chk = chk := by
  unfold noStop
  ext i hi
  have := congrArg (fun x => x.getLsbD i) h
  simp at this ⊢
  grind

theorem checksumByte_noStop (c : Config) (b : Byte) (h : b &&& c.stopMask = c.stopMask) :
    checksumByte c (noStop c b) = b := by
  unfold checksumByte noStop
  ext i hi
  have := congrArg (fun x => x.getLsbD i) h
  simp at this ⊢
  grind

/-- Two frames agree exactly when their indices, arguments and checksum operands without the stop bit do. -/
theorem frameWord_inj (c : Config) (i i' : BitVec 6) (a a' : Word) (k k' : Byte) :
    frameWord c i a k = frameWord c i' a' k' ↔ i = i' ∧ a = a' ∧ noStop c k = noStop c k' := by
  constructor
  · intro h
    refine ⟨?_, ?_, ?_⟩
    · rw [← frameWord_index c i a k, h, frameWord_index]
    · rw [← frameWord_argument c i a k, h, frameWord_argument]
    · rw [← noStop_checksumByte, ← frameByte_five c i a k, h, frameByte_five, noStop_checksumByte]
  · rintro ⟨rfl, rfl, h⟩
    unfold frameWord checksumByte
    unfold noStop at h
    rw [h]

/-- A frame with its marker bits and its stop bit is the framer's own, of its own fields. -/
theorem frameWord_fields (c : Config) (f : BitVec 48) (h1 : f.extractLsb' 46 2 = 0b01#2)
    (h2 : frameByte f 5 &&& c.stopMask = c.stopMask) :
    frameWord c (f.extractLsb' 40 6) (f.extractLsb' 8 32) (noStop c (frameByte f 5)) = f := by
  unfold frameWord
  rw [checksumByte_noStop c _ h2, ← h1]
  unfold frameByte
  ext i hi
  simp
  grind

theorem hostWord_opcode (opc : Byte) (idx : BitVec 6) (rtype : BitVec 2) (chk : Byte) :
    opcodeOf (hostWord opc idx rtype chk) = opc := by
  unfold opcodeOf hostWord; ext i hi; simp; grind

theorem hostWord_index (opc : Byte) (idx : BitVec 6) (rtype : BitVec 2) (chk : Byte) :
    (hostWord opc idx rtype chk).extractLsb' 8 6 = idx := by
  unfold hostWord; ext i hi; simp; grind

theorem hostWord_rtype (opc : Byte) (idx : BitVec 6) (rtype : BitVec 2) (chk : Byte) :
    (hostWord opc idx rtype chk).extractLsb' 16 2 = rtype := by
  unfold hostWord; ext i hi; simp; grind

theorem hostWord_checksum (opc : Byte) (idx : BitVec 6) (rtype : BitVec 2) (chk : Byte) :
    (hostWord opc idx rtype chk).extractLsb' 24 8 = chk := by
  unfold hostWord; ext i hi; simp; grind

end Sys2Proof
end

