-- ==== Sys2Proof/Laws/Memory.lean ====
section
/-! SUPPORT. The laws of the sector buffer: a read after a write, and the canonical form kept by every memory operation. -/

namespace Sys2Proof.Machine

@[simp] theorem Memory.read_nil (a : Nat) : Memory.read [] a = none := rfl

theorem Memory.read_insert (m : Memory) (a : Nat) (b : Byte) (a' : Nat) :
    (m.insert a b).read a' = if a' = a then some b else m.read a' := by
  induction m with
  | nil => rfl
  | cons c rest ih =>
    obtain ⟨k, v⟩ := c
    unfold Memory.insert
    by_cases h1 : a < k
    · simp only [if_pos h1]
      rfl
    · by_cases h3 : a = k
      · subst h3
        by_cases h2 : a' = a <;> simp [Memory.read, h2]
      · simp only [if_neg h1, if_neg h3]
        by_cases h2 : a' = k
        · subst h2
          simp [Memory.read, Ne.symm h3]
        · simp [Memory.read, h2, ih]

/-- A byte just written reads back; every other byte is as before. -/
theorem Memory.read_write (m : Memory) (a : Nat) (b : Byte) (a' : Nat) (ha : a < 512) :
    (m.write a b).read a' = if a' = a then some b else m.read a' := by
  rw [Memory.write, if_pos ha, Memory.read_insert m a b a']

theorem Memory.mem_insert (m : Memory) (a : Nat) (b : Byte) (c : Host.Cell) (h : c ∈ m.insert a b) :
    c = (a, b) ∨ c ∈ m := by
  induction m with
  | nil => simpa [Memory.insert] using h
  | cons d rest ih =>
    obtain ⟨k, v⟩ := d
    simp only [Memory.insert] at h
    split at h
    · simpa using h
    · split at h
      · simp only [List.mem_cons] at h ⊢
        tauto
      · simp only [List.mem_cons] at h ⊢
        rcases h with h | h
        · tauto
        · rcases ih h with h | h <;> tauto

theorem Memory.pairwise_insert (m : Memory) (a : Nat) (b : Byte)
    (h : m.Pairwise (fun c d => c.1 < d.1)) : (m.insert a b).Pairwise (fun c d => c.1 < d.1) := by
  induction m with
  | nil => simp [Memory.insert]
  | cons d rest ih =>
    obtain ⟨k, v⟩ := d
    have h' := List.pairwise_cons.mp h
    simp only [Memory.insert]
    split
    · rename_i hlt
      refine List.pairwise_cons.mpr ⟨?_, h⟩
      intro c hc
      rcases List.mem_cons.mp hc with rfl | hc
      · exact hlt
      · exact lt_trans hlt (h'.1 c hc)
    · split
      · subst_vars
        exact List.pairwise_cons.mpr ⟨h'.1, h'.2⟩
      · refine List.pairwise_cons.mpr ⟨?_, ih h'.2⟩
        intro c hc
        rcases Memory.mem_insert rest a b c hc with rfl | hc
        · show k < a
          omega
        · exact h'.1 c hc

/-- Writing keeps the canonical form. -/
theorem Memory.wf_write (m : Memory) (a : Nat) (b : Byte) (h : m.wf) : (m.write a b).wf := by
  unfold Memory.write
  split
  · rename_i ha
    refine ⟨Memory.pairwise_insert m a b h.1, ?_⟩
    intro c hc
    rcases Memory.mem_insert m a b c hc with rfl | hc
    · exact ha
    · exact h.2 c hc
  · exact h

/-- A reset sector buffer is in canonical form. -/
theorem Memory.wf_reset : State.reset.sb.wf := by decide

end Sys2Proof.Machine
end

