-- ==== Sys2Proof/Laws/State.lean ====
section
/-! SUPPORT. One lemma per field for each named update of the state, true by definition: what each operation writes and that it leaves every other field alone. -/

namespace Sys2Proof.Machine

/-! ## driveCs -/

@[simp] theorem driveCs_cfg (l : ChipSelect) (s : State) : (driveCs l s).cfg = s.cfg := rfl
@[simp] theorem driveCs_arg (l : ChipSelect) (s : State) : (driveCs l s).arg = s.arg := rfl
@[simp] theorem driveCs_result (l : ChipSelect) (s : State) : (driveCs l s).result = s.result := rfl
@[simp] theorem driveCs_r1Last (l : ChipSelect) (s : State) : (driveCs l s).r1Last = s.r1Last := rfl
@[simp] theorem driveCs_tokenLast (l : ChipSelect) (s : State) : (driveCs l s).tokenLast = s.tokenLast := rfl
@[simp] theorem driveCs_resp (l : ChipSelect) (s : State) : (driveCs l s).resp = s.resp := rfl
@[simp] theorem driveCs_nameLen (l : ChipSelect) (s : State) : (driveCs l s).nameLen = s.nameLen := rfl
@[simp] theorem driveCs_name0 (l : ChipSelect) (s : State) : (driveCs l s).name0 = s.name0 := rfl
@[simp] theorem driveCs_name1 (l : ChipSelect) (s : State) : (driveCs l s).name1 = s.name1 := rfl
@[simp] theorem driveCs_name2 (l : ChipSelect) (s : State) : (driveCs l s).name2 = s.name2 := rfl
@[simp] theorem driveCs_name3 (l : ChipSelect) (s : State) : (driveCs l s).name3 = s.name3 := rfl
@[simp] theorem driveCs_norm0 (l : ChipSelect) (s : State) : (driveCs l s).norm0 = s.norm0 := rfl
@[simp] theorem driveCs_norm1 (l : ChipSelect) (s : State) : (driveCs l s).norm1 = s.norm1 := rfl
@[simp] theorem driveCs_norm2 (l : ChipSelect) (s : State) : (driveCs l s).norm2 = s.norm2 := rfl
@[simp] theorem driveCs_geo (l : ChipSelect) (s : State) : (driveCs l s).geo = s.geo := rfl
@[simp] theorem driveCs_fclus (l : ChipSelect) (s : State) : (driveCs l s).fclus = s.fclus := rfl
@[simp] theorem driveCs_fsize (l : ChipSelect) (s : State) : (driveCs l s).fsize = s.fsize := rfl
@[simp] theorem driveCs_cs (l : ChipSelect) (s : State) : (driveCs l s).cs = l := rfl
@[simp] theorem driveCs_cardReady (l : ChipSelect) (s : State) : (driveCs l s).cardReady = s.cardReady := rfl
@[simp] theorem driveCs_mounted (l : ChipSelect) (s : State) : (driveCs l s).mounted = s.mounted := rfl
@[simp] theorem driveCs_busy (l : ChipSelect) (s : State) : (driveCs l s).busy = s.busy := rfl
@[simp] theorem driveCs_done (l : ChipSelect) (s : State) : (driveCs l s).done = s.done := rfl
@[simp] theorem driveCs_overrun (l : ChipSelect) (s : State) : (driveCs l s).overrun = s.overrun := rfl
@[simp] theorem driveCs_code (l : ChipSelect) (s : State) : (driveCs l s).code = s.code := rfl
@[simp] theorem driveCs_lastOpc (l : ChipSelect) (s : State) : (driveCs l s).lastOpc = s.lastOpc := rfl
@[simp] theorem driveCs_seq (l : ChipSelect) (s : State) : (driveCs l s).seq = s.seq := rfl
@[simp] theorem driveCs_txn (l : ChipSelect) (s : State) : (driveCs l s).txn = s.txn := rfl
@[simp] theorem driveCs_latch (l : ChipSelect) (s : State) : (driveCs l s).latch = s.latch := rfl
@[simp] theorem driveCs_sb (l : ChipSelect) (s : State) : (driveCs l s).sb = s.sb := rfl
@[simp] theorem driveCs_history (l : ChipSelect) (s : State) : (driveCs l s).history = s.history ++ [.csEv l] := rfl
@[simp] theorem driveCs_moves (l : ChipSelect) (s : State) : (driveCs l s).moves = s.moves := rfl
@[simp] theorem driveCs_reads (l : ChipSelect) (s : State) : (driveCs l s).reads = s.reads := rfl
@[simp] theorem driveCs_cardIn (l : ChipSelect) (s : State) : (driveCs l s).cardIn = s.cardIn := rfl
@[simp] theorem driveCs_draws (l : ChipSelect) (s : State) : (driveCs l s).draws = s.draws := rfl

/-! ## delay -/

@[simp] theorem delay_cfg (ms : Nat) (s : State) : (delay ms s).cfg = s.cfg := rfl
@[simp] theorem delay_arg (ms : Nat) (s : State) : (delay ms s).arg = s.arg := rfl
@[simp] theorem delay_result (ms : Nat) (s : State) : (delay ms s).result = s.result := rfl
@[simp] theorem delay_r1Last (ms : Nat) (s : State) : (delay ms s).r1Last = s.r1Last := rfl
@[simp] theorem delay_tokenLast (ms : Nat) (s : State) : (delay ms s).tokenLast = s.tokenLast := rfl
@[simp] theorem delay_resp (ms : Nat) (s : State) : (delay ms s).resp = s.resp := rfl
@[simp] theorem delay_nameLen (ms : Nat) (s : State) : (delay ms s).nameLen = s.nameLen := rfl
@[simp] theorem delay_name0 (ms : Nat) (s : State) : (delay ms s).name0 = s.name0 := rfl
@[simp] theorem delay_name1 (ms : Nat) (s : State) : (delay ms s).name1 = s.name1 := rfl
@[simp] theorem delay_name2 (ms : Nat) (s : State) : (delay ms s).name2 = s.name2 := rfl
@[simp] theorem delay_name3 (ms : Nat) (s : State) : (delay ms s).name3 = s.name3 := rfl
@[simp] theorem delay_norm0 (ms : Nat) (s : State) : (delay ms s).norm0 = s.norm0 := rfl
@[simp] theorem delay_norm1 (ms : Nat) (s : State) : (delay ms s).norm1 = s.norm1 := rfl
@[simp] theorem delay_norm2 (ms : Nat) (s : State) : (delay ms s).norm2 = s.norm2 := rfl
@[simp] theorem delay_geo (ms : Nat) (s : State) : (delay ms s).geo = s.geo := rfl
@[simp] theorem delay_fclus (ms : Nat) (s : State) : (delay ms s).fclus = s.fclus := rfl
@[simp] theorem delay_fsize (ms : Nat) (s : State) : (delay ms s).fsize = s.fsize := rfl
@[simp] theorem delay_cs (ms : Nat) (s : State) : (delay ms s).cs = s.cs := rfl
@[simp] theorem delay_cardReady (ms : Nat) (s : State) : (delay ms s).cardReady = s.cardReady := rfl
@[simp] theorem delay_mounted (ms : Nat) (s : State) : (delay ms s).mounted = s.mounted := rfl
@[simp] theorem delay_busy (ms : Nat) (s : State) : (delay ms s).busy = s.busy := rfl
@[simp] theorem delay_done (ms : Nat) (s : State) : (delay ms s).done = s.done := rfl
@[simp] theorem delay_overrun (ms : Nat) (s : State) : (delay ms s).overrun = s.overrun := rfl
@[simp] theorem delay_code (ms : Nat) (s : State) : (delay ms s).code = s.code := rfl
@[simp] theorem delay_lastOpc (ms : Nat) (s : State) : (delay ms s).lastOpc = s.lastOpc := rfl
@[simp] theorem delay_seq (ms : Nat) (s : State) : (delay ms s).seq = s.seq := rfl
@[simp] theorem delay_txn (ms : Nat) (s : State) : (delay ms s).txn = s.txn := rfl
@[simp] theorem delay_latch (ms : Nat) (s : State) : (delay ms s).latch = s.latch := rfl
@[simp] theorem delay_sb (ms : Nat) (s : State) : (delay ms s).sb = s.sb := rfl
@[simp] theorem delay_history (ms : Nat) (s : State) : (delay ms s).history = s.history ++ [.delayEv ms] := rfl
@[simp] theorem delay_moves (ms : Nat) (s : State) : (delay ms s).moves = s.moves := rfl
@[simp] theorem delay_reads (ms : Nat) (s : State) : (delay ms s).reads = s.reads := rfl
@[simp] theorem delay_cardIn (ms : Nat) (s : State) : (delay ms s).cardIn = s.cardIn := rfl
@[simp] theorem delay_draws (ms : Nat) (s : State) : (delay ms s).draws = s.draws := rfl

/-! ## exchange -/

@[simp] theorem exchange_cfg (out : Byte) (s : State) : (exchange out s).cfg = s.cfg := rfl
@[simp] theorem exchange_arg (out : Byte) (s : State) : (exchange out s).arg = s.arg := rfl
@[simp] theorem exchange_result (out : Byte) (s : State) : (exchange out s).result = s.result := rfl
@[simp] theorem exchange_r1Last (out : Byte) (s : State) : (exchange out s).r1Last = s.r1Last := rfl
@[simp] theorem exchange_tokenLast (out : Byte) (s : State) : (exchange out s).tokenLast = s.tokenLast := rfl
@[simp] theorem exchange_resp (out : Byte) (s : State) : (exchange out s).resp = s.resp := rfl
@[simp] theorem exchange_nameLen (out : Byte) (s : State) : (exchange out s).nameLen = s.nameLen := rfl
@[simp] theorem exchange_name0 (out : Byte) (s : State) : (exchange out s).name0 = s.name0 := rfl
@[simp] theorem exchange_name1 (out : Byte) (s : State) : (exchange out s).name1 = s.name1 := rfl
@[simp] theorem exchange_name2 (out : Byte) (s : State) : (exchange out s).name2 = s.name2 := rfl
@[simp] theorem exchange_name3 (out : Byte) (s : State) : (exchange out s).name3 = s.name3 := rfl
@[simp] theorem exchange_norm0 (out : Byte) (s : State) : (exchange out s).norm0 = s.norm0 := rfl
@[simp] theorem exchange_norm1 (out : Byte) (s : State) : (exchange out s).norm1 = s.norm1 := rfl
@[simp] theorem exchange_norm2 (out : Byte) (s : State) : (exchange out s).norm2 = s.norm2 := rfl
@[simp] theorem exchange_geo (out : Byte) (s : State) : (exchange out s).geo = s.geo := rfl
@[simp] theorem exchange_fclus (out : Byte) (s : State) : (exchange out s).fclus = s.fclus := rfl
@[simp] theorem exchange_fsize (out : Byte) (s : State) : (exchange out s).fsize = s.fsize := rfl
@[simp] theorem exchange_cs (out : Byte) (s : State) : (exchange out s).cs = s.cs := rfl
@[simp] theorem exchange_cardReady (out : Byte) (s : State) : (exchange out s).cardReady = s.cardReady := rfl
@[simp] theorem exchange_mounted (out : Byte) (s : State) : (exchange out s).mounted = s.mounted := rfl
@[simp] theorem exchange_busy (out : Byte) (s : State) : (exchange out s).busy = s.busy := rfl
@[simp] theorem exchange_done (out : Byte) (s : State) : (exchange out s).done = s.done := rfl
@[simp] theorem exchange_overrun (out : Byte) (s : State) : (exchange out s).overrun = s.overrun := rfl
@[simp] theorem exchange_code (out : Byte) (s : State) : (exchange out s).code = s.code := rfl
@[simp] theorem exchange_lastOpc (out : Byte) (s : State) : (exchange out s).lastOpc = s.lastOpc := rfl
@[simp] theorem exchange_seq (out : Byte) (s : State) : (exchange out s).seq = s.seq := rfl
@[simp] theorem exchange_txn (out : Byte) (s : State) : (exchange out s).txn = s.txn := rfl
@[simp] theorem exchange_latch (out : Byte) (s : State) : (exchange out s).latch = s.latch := rfl
@[simp] theorem exchange_sb (out : Byte) (s : State) : (exchange out s).sb = s.sb := rfl
@[simp] theorem exchange_history (out : Byte) (s : State) : (exchange out s).history = s.history ++ [.xchgEv out s.nextIn] := rfl
@[simp] theorem exchange_moves (out : Byte) (s : State) : (exchange out s).moves = s.moves := rfl
@[simp] theorem exchange_reads (out : Byte) (s : State) : (exchange out s).reads = s.reads := rfl
@[simp] theorem exchange_cardIn (out : Byte) (s : State) : (exchange out s).cardIn = s.cardIn.tail := rfl
@[simp] theorem exchange_draws (out : Byte) (s : State) : (exchange out s).draws = if s.cardIn.isEmpty then s.draws + 1 else s.draws := rfl

/-! ## fill -/

@[simp] theorem fill_cfg (s : State) : (fill s).cfg = s.cfg := rfl
@[simp] theorem fill_arg (s : State) : (fill s).arg = s.arg := rfl
@[simp] theorem fill_result (s : State) : (fill s).result = s.result := rfl
@[simp] theorem fill_r1Last (s : State) : (fill s).r1Last = s.r1Last := rfl
@[simp] theorem fill_tokenLast (s : State) : (fill s).tokenLast = s.tokenLast := rfl
@[simp] theorem fill_resp (s : State) : (fill s).resp = s.resp := rfl
@[simp] theorem fill_nameLen (s : State) : (fill s).nameLen = s.nameLen := rfl
@[simp] theorem fill_name0 (s : State) : (fill s).name0 = s.name0 := rfl
@[simp] theorem fill_name1 (s : State) : (fill s).name1 = s.name1 := rfl
@[simp] theorem fill_name2 (s : State) : (fill s).name2 = s.name2 := rfl
@[simp] theorem fill_name3 (s : State) : (fill s).name3 = s.name3 := rfl
@[simp] theorem fill_norm0 (s : State) : (fill s).norm0 = s.norm0 := rfl
@[simp] theorem fill_norm1 (s : State) : (fill s).norm1 = s.norm1 := rfl
@[simp] theorem fill_norm2 (s : State) : (fill s).norm2 = s.norm2 := rfl
@[simp] theorem fill_geo (s : State) : (fill s).geo = s.geo := rfl
@[simp] theorem fill_fclus (s : State) : (fill s).fclus = s.fclus := rfl
@[simp] theorem fill_fsize (s : State) : (fill s).fsize = s.fsize := rfl
@[simp] theorem fill_cs (s : State) : (fill s).cs = s.cs := rfl
@[simp] theorem fill_cardReady (s : State) : (fill s).cardReady = s.cardReady := rfl
@[simp] theorem fill_mounted (s : State) : (fill s).mounted = s.mounted := rfl
@[simp] theorem fill_busy (s : State) : (fill s).busy = s.busy := rfl
@[simp] theorem fill_done (s : State) : (fill s).done = s.done := rfl
@[simp] theorem fill_overrun (s : State) : (fill s).overrun = s.overrun := rfl
@[simp] theorem fill_code (s : State) : (fill s).code = s.code := rfl
@[simp] theorem fill_lastOpc (s : State) : (fill s).lastOpc = s.lastOpc := rfl
@[simp] theorem fill_seq (s : State) : (fill s).seq = s.seq := rfl
@[simp] theorem fill_txn (s : State) : (fill s).txn = s.txn := rfl
@[simp] theorem fill_latch (s : State) : (fill s).latch = s.latch := rfl
@[simp] theorem fill_sb (s : State) : (fill s).sb = s.sb := rfl
@[simp] theorem fill_history (s : State) : (fill s).history = s.history ++ [.xchgEv 0xFF s.nextIn] := rfl
@[simp] theorem fill_moves (s : State) : (fill s).moves = s.moves := rfl
@[simp] theorem fill_reads (s : State) : (fill s).reads = s.reads := rfl
@[simp] theorem fill_cardIn (s : State) : (fill s).cardIn = s.cardIn.tail := rfl
@[simp] theorem fill_draws (s : State) : (fill s).draws = if s.cardIn.isEmpty then s.draws + 1 else s.draws := rfl

/-! ## atPoint -/

@[simp] theorem atPoint_cfg (p : Point) (s : State) : (s.atPoint p).cfg = s.cfg := rfl
@[simp] theorem atPoint_arg (p : Point) (s : State) : (s.atPoint p).arg = s.arg := rfl
@[simp] theorem atPoint_result (p : Point) (s : State) : (s.atPoint p).result = s.result := rfl
@[simp] theorem atPoint_r1Last (p : Point) (s : State) : (s.atPoint p).r1Last = s.r1Last := rfl
@[simp] theorem atPoint_tokenLast (p : Point) (s : State) : (s.atPoint p).tokenLast = s.tokenLast := rfl
@[simp] theorem atPoint_resp (p : Point) (s : State) : (s.atPoint p).resp = s.resp := rfl
@[simp] theorem atPoint_nameLen (p : Point) (s : State) : (s.atPoint p).nameLen = s.nameLen := rfl
@[simp] theorem atPoint_name0 (p : Point) (s : State) : (s.atPoint p).name0 = s.name0 := rfl
@[simp] theorem atPoint_name1 (p : Point) (s : State) : (s.atPoint p).name1 = s.name1 := rfl
@[simp] theorem atPoint_name2 (p : Point) (s : State) : (s.atPoint p).name2 = s.name2 := rfl
@[simp] theorem atPoint_name3 (p : Point) (s : State) : (s.atPoint p).name3 = s.name3 := rfl
@[simp] theorem atPoint_norm0 (p : Point) (s : State) : (s.atPoint p).norm0 = s.norm0 := rfl
@[simp] theorem atPoint_norm1 (p : Point) (s : State) : (s.atPoint p).norm1 = s.norm1 := rfl
@[simp] theorem atPoint_norm2 (p : Point) (s : State) : (s.atPoint p).norm2 = s.norm2 := rfl
@[simp] theorem atPoint_geo (p : Point) (s : State) : (s.atPoint p).geo = s.geo := rfl
@[simp] theorem atPoint_fclus (p : Point) (s : State) : (s.atPoint p).fclus = s.fclus := rfl
@[simp] theorem atPoint_fsize (p : Point) (s : State) : (s.atPoint p).fsize = s.fsize := rfl
@[simp] theorem atPoint_cs (p : Point) (s : State) : (s.atPoint p).cs = s.cs := rfl
@[simp] theorem atPoint_cardReady (p : Point) (s : State) : (s.atPoint p).cardReady = s.cardReady := rfl
@[simp] theorem atPoint_mounted (p : Point) (s : State) : (s.atPoint p).mounted = s.mounted := rfl
@[simp] theorem atPoint_busy (p : Point) (s : State) : (s.atPoint p).busy = s.busy := rfl
@[simp] theorem atPoint_done (p : Point) (s : State) : (s.atPoint p).done = s.done := rfl
@[simp] theorem atPoint_overrun (p : Point) (s : State) : (s.atPoint p).overrun = s.overrun := rfl
@[simp] theorem atPoint_code (p : Point) (s : State) : (s.atPoint p).code = s.code := rfl
@[simp] theorem atPoint_lastOpc (p : Point) (s : State) : (s.atPoint p).lastOpc = s.lastOpc := rfl
@[simp] theorem atPoint_seq (p : Point) (s : State) : (s.atPoint p).seq = .run s.lastOpc p := rfl
@[simp] theorem atPoint_txn (p : Point) (s : State) : (s.atPoint p).txn = s.txn := rfl
@[simp] theorem atPoint_latch (p : Point) (s : State) : (s.atPoint p).latch = s.latch := rfl
@[simp] theorem atPoint_sb (p : Point) (s : State) : (s.atPoint p).sb = s.sb := rfl
@[simp] theorem atPoint_history (p : Point) (s : State) : (s.atPoint p).history = s.history := rfl
@[simp] theorem atPoint_moves (p : Point) (s : State) : (s.atPoint p).moves = s.moves := rfl
@[simp] theorem atPoint_reads (p : Point) (s : State) : (s.atPoint p).reads = s.reads := rfl
@[simp] theorem atPoint_cardIn (p : Point) (s : State) : (s.atPoint p).cardIn = s.cardIn := rfl
@[simp] theorem atPoint_draws (p : Point) (s : State) : (s.atPoint p).draws = s.draws := rfl

/-! ## atPhase -/

@[simp] theorem atPhase_cfg (p : Phase) (s : State) : (s.atPhase p).cfg = s.cfg := rfl
@[simp] theorem atPhase_arg (p : Phase) (s : State) : (s.atPhase p).arg = s.arg := rfl
@[simp] theorem atPhase_result (p : Phase) (s : State) : (s.atPhase p).result = s.result := rfl
@[simp] theorem atPhase_r1Last (p : Phase) (s : State) : (s.atPhase p).r1Last = s.r1Last := rfl
@[simp] theorem atPhase_tokenLast (p : Phase) (s : State) : (s.atPhase p).tokenLast = s.tokenLast := rfl
@[simp] theorem atPhase_resp (p : Phase) (s : State) : (s.atPhase p).resp = s.resp := rfl
@[simp] theorem atPhase_nameLen (p : Phase) (s : State) : (s.atPhase p).nameLen = s.nameLen := rfl
@[simp] theorem atPhase_name0 (p : Phase) (s : State) : (s.atPhase p).name0 = s.name0 := rfl
@[simp] theorem atPhase_name1 (p : Phase) (s : State) : (s.atPhase p).name1 = s.name1 := rfl
@[simp] theorem atPhase_name2 (p : Phase) (s : State) : (s.atPhase p).name2 = s.name2 := rfl
@[simp] theorem atPhase_name3 (p : Phase) (s : State) : (s.atPhase p).name3 = s.name3 := rfl
@[simp] theorem atPhase_norm0 (p : Phase) (s : State) : (s.atPhase p).norm0 = s.norm0 := rfl
@[simp] theorem atPhase_norm1 (p : Phase) (s : State) : (s.atPhase p).norm1 = s.norm1 := rfl
@[simp] theorem atPhase_norm2 (p : Phase) (s : State) : (s.atPhase p).norm2 = s.norm2 := rfl
@[simp] theorem atPhase_geo (p : Phase) (s : State) : (s.atPhase p).geo = s.geo := rfl
@[simp] theorem atPhase_fclus (p : Phase) (s : State) : (s.atPhase p).fclus = s.fclus := rfl
@[simp] theorem atPhase_fsize (p : Phase) (s : State) : (s.atPhase p).fsize = s.fsize := rfl
@[simp] theorem atPhase_cs (p : Phase) (s : State) : (s.atPhase p).cs = s.cs := rfl
@[simp] theorem atPhase_cardReady (p : Phase) (s : State) : (s.atPhase p).cardReady = s.cardReady := rfl
@[simp] theorem atPhase_mounted (p : Phase) (s : State) : (s.atPhase p).mounted = s.mounted := rfl
@[simp] theorem atPhase_busy (p : Phase) (s : State) : (s.atPhase p).busy = s.busy := rfl
@[simp] theorem atPhase_done (p : Phase) (s : State) : (s.atPhase p).done = s.done := rfl
@[simp] theorem atPhase_overrun (p : Phase) (s : State) : (s.atPhase p).overrun = s.overrun := rfl
@[simp] theorem atPhase_code (p : Phase) (s : State) : (s.atPhase p).code = s.code := rfl
@[simp] theorem atPhase_lastOpc (p : Phase) (s : State) : (s.atPhase p).lastOpc = s.lastOpc := rfl
@[simp] theorem atPhase_seq (p : Phase) (s : State) : (s.atPhase p).seq = s.seq := rfl
@[simp] theorem atPhase_txn (p : Phase) (s : State) : (s.atPhase p).txn = { s.txn with phase := p } := rfl
@[simp] theorem atPhase_latch (p : Phase) (s : State) : (s.atPhase p).latch = s.latch := rfl
@[simp] theorem atPhase_sb (p : Phase) (s : State) : (s.atPhase p).sb = s.sb := rfl
@[simp] theorem atPhase_history (p : Phase) (s : State) : (s.atPhase p).history = s.history := rfl
@[simp] theorem atPhase_moves (p : Phase) (s : State) : (s.atPhase p).moves = s.moves := rfl
@[simp] theorem atPhase_reads (p : Phase) (s : State) : (s.atPhase p).reads = s.reads := rfl
@[simp] theorem atPhase_cardIn (p : Phase) (s : State) : (s.atPhase p).cardIn = s.cardIn := rfl
@[simp] theorem atPhase_draws (p : Phase) (s : State) : (s.atPhase p).draws = s.draws := rfl

/-! ## finish -/

@[simp] theorem finish_cfg (c : Byte) (s : State) : (finish c s).cfg = s.cfg := rfl
@[simp] theorem finish_arg (c : Byte) (s : State) : (finish c s).arg = s.arg := rfl
@[simp] theorem finish_result (c : Byte) (s : State) : (finish c s).result = s.result := rfl
@[simp] theorem finish_r1Last (c : Byte) (s : State) : (finish c s).r1Last = s.r1Last := rfl
@[simp] theorem finish_tokenLast (c : Byte) (s : State) : (finish c s).tokenLast = s.tokenLast := rfl
@[simp] theorem finish_resp (c : Byte) (s : State) : (finish c s).resp = s.resp := rfl
@[simp] theorem finish_nameLen (c : Byte) (s : State) : (finish c s).nameLen = s.nameLen := rfl
@[simp] theorem finish_name0 (c : Byte) (s : State) : (finish c s).name0 = s.name0 := rfl
@[simp] theorem finish_name1 (c : Byte) (s : State) : (finish c s).name1 = s.name1 := rfl
@[simp] theorem finish_name2 (c : Byte) (s : State) : (finish c s).name2 = s.name2 := rfl
@[simp] theorem finish_name3 (c : Byte) (s : State) : (finish c s).name3 = s.name3 := rfl
@[simp] theorem finish_norm0 (c : Byte) (s : State) : (finish c s).norm0 = s.norm0 := rfl
@[simp] theorem finish_norm1 (c : Byte) (s : State) : (finish c s).norm1 = s.norm1 := rfl
@[simp] theorem finish_norm2 (c : Byte) (s : State) : (finish c s).norm2 = s.norm2 := rfl
@[simp] theorem finish_geo (c : Byte) (s : State) : (finish c s).geo = s.geo := rfl
@[simp] theorem finish_fclus (c : Byte) (s : State) : (finish c s).fclus = s.fclus := rfl
@[simp] theorem finish_fsize (c : Byte) (s : State) : (finish c s).fsize = s.fsize := rfl
@[simp] theorem finish_cs (c : Byte) (s : State) : (finish c s).cs = s.cs := rfl
@[simp] theorem finish_cardReady (c : Byte) (s : State) : (finish c s).cardReady = s.cardReady := rfl
@[simp] theorem finish_mounted (c : Byte) (s : State) : (finish c s).mounted = s.mounted := rfl
@[simp] theorem finish_busy (c : Byte) (s : State) : (finish c s).busy = false := rfl
@[simp] theorem finish_done (c : Byte) (s : State) : (finish c s).done = true := rfl
@[simp] theorem finish_overrun (c : Byte) (s : State) : (finish c s).overrun = s.overrun := rfl
@[simp] theorem finish_code (c : Byte) (s : State) : (finish c s).code = c := rfl
@[simp] theorem finish_lastOpc (c : Byte) (s : State) : (finish c s).lastOpc = s.lastOpc := rfl
@[simp] theorem finish_seq (c : Byte) (s : State) : (finish c s).seq = .idle := rfl
@[simp] theorem finish_txn (c : Byte) (s : State) : (finish c s).txn = s.txn := rfl
@[simp] theorem finish_latch (c : Byte) (s : State) : (finish c s).latch = s.latch := rfl
@[simp] theorem finish_sb (c : Byte) (s : State) : (finish c s).sb = s.sb := rfl
@[simp] theorem finish_history (c : Byte) (s : State) : (finish c s).history = s.history ++ [.opEnd c] := rfl
@[simp] theorem finish_moves (c : Byte) (s : State) : (finish c s).moves = s.moves := rfl
@[simp] theorem finish_reads (c : Byte) (s : State) : (finish c s).reads = s.reads := rfl
@[simp] theorem finish_cardIn (c : Byte) (s : State) : (finish c s).cardIn = s.cardIn := rfl
@[simp] theorem finish_draws (c : Byte) (s : State) : (finish c s).draws = s.draws := rfl

/-! ## accept -/

@[simp] theorem accept_cfg (w : Word) (s : State) : (accept w s).cfg = s.cfg := rfl
@[simp] theorem accept_arg (w : Word) (s : State) : (accept w s).arg = s.arg := rfl
@[simp] theorem accept_result (w : Word) (s : State) : (accept w s).result = s.result := rfl
@[simp] theorem accept_r1Last (w : Word) (s : State) : (accept w s).r1Last = s.r1Last := rfl
@[simp] theorem accept_tokenLast (w : Word) (s : State) : (accept w s).tokenLast = s.tokenLast := rfl
@[simp] theorem accept_resp (w : Word) (s : State) : (accept w s).resp = s.resp := rfl
@[simp] theorem accept_nameLen (w : Word) (s : State) : (accept w s).nameLen = s.nameLen := rfl
@[simp] theorem accept_name0 (w : Word) (s : State) : (accept w s).name0 = s.name0 := rfl
@[simp] theorem accept_name1 (w : Word) (s : State) : (accept w s).name1 = s.name1 := rfl
@[simp] theorem accept_name2 (w : Word) (s : State) : (accept w s).name2 = s.name2 := rfl
@[simp] theorem accept_name3 (w : Word) (s : State) : (accept w s).name3 = s.name3 := rfl
@[simp] theorem accept_norm0 (w : Word) (s : State) : (accept w s).norm0 = s.norm0 := rfl
@[simp] theorem accept_norm1 (w : Word) (s : State) : (accept w s).norm1 = s.norm1 := rfl
@[simp] theorem accept_norm2 (w : Word) (s : State) : (accept w s).norm2 = s.norm2 := rfl
@[simp] theorem accept_geo (w : Word) (s : State) : (accept w s).geo = s.geo := rfl
@[simp] theorem accept_fclus (w : Word) (s : State) : (accept w s).fclus = s.fclus := rfl
@[simp] theorem accept_fsize (w : Word) (s : State) : (accept w s).fsize = s.fsize := rfl
@[simp] theorem accept_cs (w : Word) (s : State) : (accept w s).cs = s.cs := rfl
@[simp] theorem accept_cardReady (w : Word) (s : State) : (accept w s).cardReady = s.cardReady := rfl
@[simp] theorem accept_mounted (w : Word) (s : State) : (accept w s).mounted = s.mounted := rfl
@[simp] theorem accept_busy (w : Word) (s : State) : (accept w s).busy = true := rfl
@[simp] theorem accept_done (w : Word) (s : State) : (accept w s).done = false := rfl
@[simp] theorem accept_overrun (w : Word) (s : State) : (accept w s).overrun = s.overrun := rfl
@[simp] theorem accept_code (w : Word) (s : State) : (accept w s).code = s.code := rfl
@[simp] theorem accept_lastOpc (w : Word) (s : State) : (accept w s).lastOpc = w.extractLsb' 0 8 := rfl
@[simp] theorem accept_seq (w : Word) (s : State) : (accept w s).seq = .run (w.extractLsb' 0 8) .start := rfl
@[simp] theorem accept_txn (w : Word) (s : State) : (accept w s).txn = Txn.none := rfl
@[simp] theorem accept_latch (w : Word) (s : State) : (accept w s).latch = loadLatches w s := rfl
@[simp] theorem accept_sb (w : Word) (s : State) : (accept w s).sb = s.sb := rfl
@[simp] theorem accept_history (w : Word) (s : State) : (accept w s).history = s.history ++ [.opStart (w.extractLsb' 0 8)] := rfl
@[simp] theorem accept_moves (w : Word) (s : State) : (accept w s).moves = s.moves := rfl
@[simp] theorem accept_reads (w : Word) (s : State) : (accept w s).reads = s.reads := rfl
@[simp] theorem accept_cardIn (w : Word) (s : State) : (accept w s).cardIn = s.cardIn := rfl
@[simp] theorem accept_draws (w : Word) (s : State) : (accept w s).draws = s.draws := rfl

/-! ## withNorm -/

@[simp] theorem withNorm_cfg (n : List Byte) (s : State) : (s.withNorm n).cfg = s.cfg := rfl
@[simp] theorem withNorm_arg (n : List Byte) (s : State) : (s.withNorm n).arg = s.arg := rfl
@[simp] theorem withNorm_result (n : List Byte) (s : State) : (s.withNorm n).result = s.result := rfl
@[simp] theorem withNorm_r1Last (n : List Byte) (s : State) : (s.withNorm n).r1Last = s.r1Last := rfl
@[simp] theorem withNorm_tokenLast (n : List Byte) (s : State) : (s.withNorm n).tokenLast = s.tokenLast := rfl
@[simp] theorem withNorm_resp (n : List Byte) (s : State) : (s.withNorm n).resp = s.resp := rfl
@[simp] theorem withNorm_nameLen (n : List Byte) (s : State) : (s.withNorm n).nameLen = s.nameLen := rfl
@[simp] theorem withNorm_name0 (n : List Byte) (s : State) : (s.withNorm n).name0 = s.name0 := rfl
@[simp] theorem withNorm_name1 (n : List Byte) (s : State) : (s.withNorm n).name1 = s.name1 := rfl
@[simp] theorem withNorm_name2 (n : List Byte) (s : State) : (s.withNorm n).name2 = s.name2 := rfl
@[simp] theorem withNorm_name3 (n : List Byte) (s : State) : (s.withNorm n).name3 = s.name3 := rfl
@[simp] theorem withNorm_norm0 (n : List Byte) (s : State) : (s.withNorm n).norm0 = wordOfBytes (n.getD 0 0) (n.getD 1 0) (n.getD 2 0) (n.getD 3 0) := rfl
@[simp] theorem withNorm_norm1 (n : List Byte) (s : State) : (s.withNorm n).norm1 = wordOfBytes (n.getD 4 0) (n.getD 5 0) (n.getD 6 0) (n.getD 7 0) := rfl
@[simp] theorem withNorm_norm2 (n : List Byte) (s : State) : (s.withNorm n).norm2 = wordOfBytes (n.getD 8 0) (n.getD 9 0) (n.getD 10 0) 0 := rfl
@[simp] theorem withNorm_geo (n : List Byte) (s : State) : (s.withNorm n).geo = s.geo := rfl
@[simp] theorem withNorm_fclus (n : List Byte) (s : State) : (s.withNorm n).fclus = s.fclus := rfl
@[simp] theorem withNorm_fsize (n : List Byte) (s : State) : (s.withNorm n).fsize = s.fsize := rfl
@[simp] theorem withNorm_cs (n : List Byte) (s : State) : (s.withNorm n).cs = s.cs := rfl
@[simp] theorem withNorm_cardReady (n : List Byte) (s : State) : (s.withNorm n).cardReady = s.cardReady := rfl
@[simp] theorem withNorm_mounted (n : List Byte) (s : State) : (s.withNorm n).mounted = s.mounted := rfl
@[simp] theorem withNorm_busy (n : List Byte) (s : State) : (s.withNorm n).busy = s.busy := rfl
@[simp] theorem withNorm_done (n : List Byte) (s : State) : (s.withNorm n).done = s.done := rfl
@[simp] theorem withNorm_overrun (n : List Byte) (s : State) : (s.withNorm n).overrun = s.overrun := rfl
@[simp] theorem withNorm_code (n : List Byte) (s : State) : (s.withNorm n).code = s.code := rfl
@[simp] theorem withNorm_lastOpc (n : List Byte) (s : State) : (s.withNorm n).lastOpc = s.lastOpc := rfl
@[simp] theorem withNorm_seq (n : List Byte) (s : State) : (s.withNorm n).seq = s.seq := rfl
@[simp] theorem withNorm_txn (n : List Byte) (s : State) : (s.withNorm n).txn = s.txn := rfl
@[simp] theorem withNorm_latch (n : List Byte) (s : State) : (s.withNorm n).latch = s.latch := rfl
@[simp] theorem withNorm_sb (n : List Byte) (s : State) : (s.withNorm n).sb = s.sb := rfl
@[simp] theorem withNorm_history (n : List Byte) (s : State) : (s.withNorm n).history = s.history := rfl
@[simp] theorem withNorm_moves (n : List Byte) (s : State) : (s.withNorm n).moves = s.moves := rfl
@[simp] theorem withNorm_reads (n : List Byte) (s : State) : (s.withNorm n).reads = s.reads := rfl
@[simp] theorem withNorm_cardIn (n : List Byte) (s : State) : (s.withNorm n).cardIn = s.cardIn := rfl
@[simp] theorem withNorm_draws (n : List Byte) (s : State) : (s.withNorm n).draws = s.draws := rfl

end Sys2Proof.Machine
end

