-- ==== Sys2Proof/Laws/Transaction.lean ====
section
/-! SUPPORT. What one step of SendCommand can do, said once: which fields it may touch, which single event it appends, where its chip-select stands afterwards, and what it does at each position (40_card_protocol.md R161-R172). -/

namespace Sys2Proof.Machine

/-- `t` differs from `s` at most in what a transaction may write: R1TOK, RESP, chip-select, the transaction's own
locals, SB, the history and the card's answers. -/
def BusOnly (s t : State) : Prop :=
  t = { s with
    r1Last := t.r1Last, tokenLast := t.tokenLast, resp := t.resp, cs := t.cs, txn := t.txn, sb := t.sb,
    history := t.history, cardIn := t.cardIn, draws := t.draws }

theorem busOnly_settle (s : State) : BusOnly s (settle s) := rfl

theorem busOnly_readTrailing (got : List Byte) (s : State) : BusOnly s (readTrailing got s) := by
  unfold readTrailing; split <;> rfl

theorem busOnly_dataPhase (i : Nat) (s : State) : BusOnly s (dataPhase i s) := by
  unfold dataPhase; split <;> rfl

theorem busOnly_pollToken (p : Nat) (b : Byte) (s : State) : BusOnly s (pollToken p b s) := by
  unfold pollToken
  split
  · split
    · unfold dataPhase; split <;> rfl
    · rfl
  · rfl

theorem busOnly_afterR1 (r : Byte) (s : State) : BusOnly s (afterR1 r s) := by
  unfold afterR1
  dsimp only
  split
  · rfl
  · split <;> rfl
  · split <;> rfl
  · split
    · rfl
    · have h := busOnly_pollToken 0 0xFF
        { s with r1Last := r, txn := { s.txn with r1 := r, word := none, tok := 0xFF } }
      unfold BusOnly at h ⊢
      rw [h]

theorem busOnly_pollR1 (k : Nat) (r : Byte) (s : State) : BusOnly s (pollR1 k r s) := by
  unfold pollR1
  split
  · exact busOnly_afterR1 r s
  · rfl

/-- A step of SendCommand touches only what a transaction may write. -/
theorem busOnly_transactionStep (s : State) : BusOnly s (transactionStep s) := by
  unfold transactionStep
  split
  · rfl
  · rfl
  · rfl
  · exact busOnly_pollR1 _ _ s
  · exact busOnly_readTrailing _ s
  · exact busOnly_pollToken _ _ s
  · exact busOnly_dataPhase _ s
  · rfl
  · rfl
  · rfl
  · rfl
  · rfl

theorem busOnly_beginTransaction (f : BitVec 48) (k : RespKind) (s : State) :
    BusOnly s (beginTransaction f k s) := rfl

theorem busOnly_frameStep (f : BitVec 48) (k : RespKind) (s : State) : BusOnly s (frameStep f k s) := by
  unfold frameStep
  split
  · rfl
  · have h := busOnly_transactionStep { s with txn := { s.txn with frame := f } }
    unfold BusOnly at h ⊢
    rw [h]

/-- An operation's call of SendCommand: `CS(SEL)` and the point it waits at, nothing else. -/
theorem sendCommand_eq (p : Point) (f : BitVec 48) (k : RespKind) (s : State) :
    sendCommand p f k s =
      { s with
        seq := .run s.lastOpc p, cs := .sel, txn := { Txn.fresh f k with phase := .selected }
        history := s.history ++ [.csEv .sel] } := rfl

theorem blockRead_eq (p : Point) (sector : Word) (s : State) :
    blockRead p sector s =
      { s with
        seq := .run s.lastOpc p, cs := .sel
        txn := { Txn.fresh (cmd17Frame s.cfg sector) .data with phase := .selected }
        history := s.history ++ [.csEv .sel] } := rfl

/-! ## What a step of SendCommand does at each position -/

theorem transactionStep_start (s : State) (h : s.txn.phase = .start) :
    transactionStep s = (driveCs .sel s).atPhase .selected := by simp only [transactionStep, h]

theorem transactionStep_selected (s : State) (h : s.txn.phase = .selected) :
    transactionStep s = (fill s).atPhase (.frame 0) := by simp only [transactionStep, h]

theorem transactionStep_frame (s : State) (i : Nat) (h : s.txn.phase = .frame i) :
    transactionStep s =
      (exchange (frameByte s.txn.frame i) s).atPhase (if i < 5 then .frame (i + 1) else .r1Poll 0 0xFF) := by
  simp only [transactionStep, h]

theorem transactionStep_r1Poll (s : State) (k : Nat) (r : Byte) (h : s.txn.phase = .r1Poll k r) :
    transactionStep s = pollR1 k r s := by simp only [transactionStep, h]

theorem transactionStep_trailing (s : State) (got : List Byte) (h : s.txn.phase = .trailing got) :
    transactionStep s = readTrailing got s := by simp only [transactionStep, h]

theorem transactionStep_tokenPoll (s : State) (p : Nat) (b : Byte) (h : s.txn.phase = .tokenPoll p b) :
    transactionStep s = pollToken p b s := by simp only [transactionStep, h]

theorem transactionStep_data (s : State) (i : Nat) (h : s.txn.phase = .data i) :
    transactionStep s = dataPhase i s := by simp only [transactionStep, h]

theorem transactionStep_crc1 (s : State) (h : s.txn.phase = .crc1) :
    transactionStep s = (fill s).atPhase .crc2 := by simp only [transactionStep, h]

theorem transactionStep_crc2 (s : State) (h : s.txn.phase = .crc2) :
    transactionStep s = endData dataStart s := by simp only [transactionStep, h]

theorem transactionStep_settled (s : State) (h : s.txn.phase = .settled) :
    transactionStep s = (driveCs .desel s).atPhase .deselected := by simp only [transactionStep, h]

theorem transactionStep_deselected (s : State) (h : s.txn.phase = .deselected) :
    transactionStep s = (fill s).atPhase .complete := by simp only [transactionStep, h]

theorem transactionStep_complete (s : State) (h : s.txn.phase = .complete) : transactionStep s = s := by
  simp only [transactionStep, h]

end Sys2Proof.Machine
end

