-- ==== Sys2Proof/Laws/Exec.lean ====
section
/-! SUPPORT. What exec does, said once for all host operations and once for all frames, and where the engine gets its instruction from (10_state.md R45). -/

namespace Sys2Proof.Machine

/-- What a host operation does outside a transaction at a point; a frame instruction has no such part. -/
def resumeOf : Instr → Point → State → State
  | .init => resumeInit
  | .sendcmd idx rtype chk => resumeSendcmd idx rtype chk
  | .rdblk => resumeRdblk
  | .mount => resumeMount
  | .c2s => resumeC2s
  | .norm => resumeNorm
  | .rdfile => resumeRdfile
  | .decr1 => resumeDecr1
  | .decr3 => resumeDecr3
  | .decr7 => resumeDecr7
  | .cmd0 => fun _ s => s
  | .cmd8 => fun _ s => s
  | .cmd55 => fun _ s => s
  | .acmd41 => fun _ s => s
  | .cmd58 => fun _ s => s
  | .cmd17 _ => fun _ s => s
  | .sdframe _ _ _ => fun _ s => s

/-- A host operation takes the transaction's next step, or outside one does what its point says. -/
theorem exec_hostOp (i : Instr) (s : State) (h : isHostOp i = true) :
    exec i s = .next (operationStep (resumeOf i) s) := by
  cases i <;> first | rfl | cases h

/-- A frame instruction takes one step of the transaction that sends its encoding. -/
theorem exec_frame (i : Instr) (s : State) (f : BitVec 48) (h : encode s.cfg i = .frame f) :
    exec i s = .next (frameStep f (frameKind i) s) := by
  cases i <;> simp only [encode, Encoding.frame.injEq, reduceCtorEq] at h <;> subst h <;> rfl

/-- A frame instruction has a frame encoding. -/
theorem encode_frame (c : Config) (i : Instr) (h : isHostOp i = false) : ∃ f, encode c i = .frame f := by
  cases i <;> first | exact ⟨_, rfl⟩ | cases h

/-- What a command word decodes to is a host operation. -/
theorem decodeHost_isHostOp (w : Word) (i : Instr) (h : decodeHost w = .ok i) : isHostOp i = true := by
  unfold decodeHost at h
  split at h <;> cases h <;> rfl

/-- With `s.txn.phase = .complete`, the engine runs the latched operation. -/
theorem engineStep_operation (s : State) (op : Byte) (p : Point) (i : Instr) (h1 : s.seq = .run op p)
    (h2 : s.txn.phase = .complete) (h3 : decodeHost s.latch.cmd = .ok i) : engineStep s = exec i s := by
  simp only [engineStep, fetch, h1, h2, h3, if_true]

/-- An accepted word that decodes to nothing is finished by R281. -/
theorem engineStep_illegal (s : State) (op : Byte) (p : Point) (e : DecodeError) (h1 : s.seq = .run op p)
    (h2 : s.txn.phase = .complete) (h3 : decodeHost s.latch.cmd = .error e) :
    engineStep s = .next (illegalOp s) := by
  simp only [engineStep, fetch, h1, h2, h3, if_true]

/-- At IDLE the engine leaves the state (R312). -/
theorem engineStep_idle (s : State) (h : s.seq = .idle) : engineStep s = .next s := by
  simp only [engineStep, fetch, h]

end Sys2Proof.Machine
end

