-- ==== Sys2Proof/Laws/PerInstr.lean ====
section
/-! SUPPORT. Per instruction: its encoding at the default parameters carries the match bits of its own row of spec/opcode_table.json under that row's mask. -/

namespace Sys2Proof

namespace Laws.TableRow

/-- A command word has its row's OPC in bits 7:0 (R111); a frame agrees with `mat` wherever `mask` is 1 (R119). -/
def Carries (mask mat : Nat) : Encoding → Prop
  | .host w => w &&& BitVec.ofNat 32 mask = BitVec.ofNat 32 mat
  | .frame f => f &&& BitVec.ofNat 48 mask = BitVec.ofNat 48 mat

/-- The instruction's row of the opcode table: mask and match. -/
def row : Instr → Nat × Nat
  | .init => (0x000000FF, 0x00000001)
  | .sendcmd _ _ _ => (0x000000FF, 0x00000002)
  | .rdblk => (0x000000FF, 0x00000003)
  | .mount => (0x000000FF, 0x00000004)
  | .c2s => (0x000000FF, 0x00000005)
  | .norm => (0x000000FF, 0x00000006)
  | .rdfile => (0x000000FF, 0x00000007)
  | .decr1 => (0x000000FF, 0x00000008)
  | .decr3 => (0x000000FF, 0x00000009)
  | .decr7 => (0x000000FF, 0x0000000A)
  | .cmd0 => (0xFFFFFFFFFFFF, 0x400000000095)
  | .cmd8 => (0xFFFFFFFFFFFF, 0x48000001AA87)
  | .cmd55 => (0xFFFFFFFFFFFF, 0x7700000000E5)
  | .acmd41 => (0xFFFFFFFFFFFF, 0x6940000000F7)
  | .cmd58 => (0xFFFFFFFFFFFF, 0x7A0000000080)
  | .cmd17 _ => (0xFF00000000FF, 0x510000000080)
  | .sdframe _ _ _ => (0xC00000000080, 0x400000000080)

def Statement (i : Instr) : Prop := Carries (row i).1 (row i).2 (encode Config.default i)

theorem init : Statement .init := rfl

theorem sendcmd (idx : BitVec 6) (rtype : BitVec 2) (chk : Byte) : Statement (.sendcmd idx rtype chk) := by
  show hostWord 0x02 idx rtype chk &&& BitVec.ofNat 32 0xFF = BitVec.ofNat 32 0x02
  unfold hostWord
  ext i hi
  simp
  interval_cases i <;> grind

theorem rdblk : Statement .rdblk := rfl
theorem mount : Statement .mount := rfl
theorem c2s : Statement .c2s := rfl
theorem norm : Statement .norm := rfl
theorem rdfile : Statement .rdfile := rfl
theorem decr1 : Statement .decr1 := rfl
theorem decr3 : Statement .decr3 := rfl
theorem decr7 : Statement .decr7 := rfl
theorem cmd0 : Statement .cmd0 := rfl
theorem cmd8 : Statement .cmd8 := rfl
theorem cmd55 : Statement .cmd55 := rfl
theorem acmd41 : Statement .acmd41 := rfl
theorem cmd58 : Statement .cmd58 := rfl

theorem cmd17 (sector : Word) : Statement (.cmd17 sector) := by
  show frameWord Config.default 17 sector 0 &&& BitVec.ofNat 48 0xFF00000000FF = BitVec.ofNat 48 0x510000000080
  unfold frameWord checksumByte
  ext i hi
  simp [Config.default]
  interval_cases i <;> grind

theorem sdframe (idx : BitVec 6) (arg : Word) (chk : Byte) : Statement (.sdframe idx arg chk) := by
  show frameWord Config.default idx arg chk &&& BitVec.ofNat 48 0xC00000000080 = BitVec.ofNat 48 0x400000000080
  unfold frameWord checksumByte
  ext i hi
  simp [Config.default]
  interval_cases i <;> grind

end Laws.TableRow

end Sys2Proof
end

