-- ==== Sys2Proof/Tests/Slice0.lean ====
section
/-! SUPPORT. Tests of the model's author: ill-formed terms, words written out from 30_encoding.md, single steps with the results of 95_test_vectors.md, and for every statement with hypotheses a state and operands that meet them. -/

namespace Sys2Proof.Tests

open Sys2Proof.Machine

/-! ## Helpers -/

/-- The next state of an outcome, if it is one. -/
def next? (o : Host.Outcome State Fault Refusal) : Option State :=
  match o with
  | .next t => some t
  | .fault _ => none
  | .refused _ => none

/-- Just after acceptance of `w` from reset, with ARG = `a`, put at point `p`. -/
def opState (w a : Word) (p : Point) : State :=
  { accept w { State.reset with arg := a } with seq := .run (w.extractLsb' 0 8) p }

/-- RDBLK of sector 0x800 inside its transaction, at phase `ph` with response kind `k`; the card answers 0x5A next. -/
def txnState (k : RespKind) (ph : Phase) : State :=
  { opState 0x00000003 0x800 .rdblk with
    cs := csOf ph, txn := { Txn.fresh (cmd17Frame Config.default 0x800) k with phase := ph }, cardIn := [0x5A] }

/-- An idle block whose host's next moves are `m`. -/
def hostState (m : List HostMove) : State := { State.reset with moves := m }

/-- The bytes of the filename "config.txt" (95_test_vectors.md V10). -/
def configTxt : List Byte :=
  [0x63, 0x6F, 0x6E, 0x66, 0x69, 0x67, 0x2E, 0x74, 0x78, 0x74, 0, 0, 0, 0, 0, 0]

/-- `s` with a name of `len` bytes latched. -/
def named (len : BitVec 5) (name : List Byte) (s : State) : State :=
  { s with latch := { s.latch with nameLen := len, name := name } }

/-- The boot sector G0 (95_test_vectors.md V8), with the jump code `jump`; only the bytes the fields use. -/
def bootSector (jump : Byte) : Memory :=
  [(0, jump), (11, 0x00), (12, 0x02), (13, 0x08), (14, 0x20), (15, 0x00), (16, 0x02), (28, 0), (29, 0), (30, 0),
    (31, 0)] ++
  [(32, 0x40), (33, 0x42), (34, 0x0F), (35, 0x00), (36, 0xF4), (37, 0x01), (38, 0), (39, 0), (44, 2), (45, 0),
    (46, 0), (47, 0)]

/-- A finished block read with token `tok`, R1 byte `r1` and sector buffer `sb`, at point `p` of word `w`. -/
def readDone (w : Word) (p : Point) (tok r1 : Byte) (sb : Memory) : State :=
  { opState w 0 p with
    cardReady := true, mounted := true, sb := sb
    txn := { Txn.fresh (cmd17Frame Config.default 0) .data with phase := .complete, tok := tok, r1 := r1 } }

/-! ## Well-formedness: an ill-formed term for each check -/

theorem test_wf_rejects_stop_bit : Instr.wellFormed Config.default (.sdframe 1 0 0x80) = false := by decide
theorem test_wf_rejects_cmd0 : Instr.wellFormed Config.default (.sdframe 0 0 0x15) = false := by decide
theorem test_wf_rejects_cmd8 : Instr.wellFormed Config.default (.sdframe 8 0x1AA 0x07) = false := by decide
theorem test_wf_rejects_cmd55 : Instr.wellFormed Config.default (.sdframe 55 0 0x65) = false := by decide
theorem test_wf_rejects_acmd41 : Instr.wellFormed Config.default (.sdframe 41 0x40000000 0x77) = false := by decide
theorem test_wf_rejects_cmd58 : Instr.wellFormed Config.default (.sdframe 58 0 0x00) = false := by decide
theorem test_wf_rejects_cmd17 : Instr.wellFormed Config.default (.sdframe 17 5 0x00) = false := by decide
theorem test_wf_accepts : Instr.wellFormed Config.default (.sdframe 17 5 0x01) = true := by decide

/-! ## Decoding: words written out bit by bit from R110, R111 and R116, R119 -/

theorem test_decode_init : decodeTableWord 32 0b00000000000000000000000000000001 = some .init := by decide
theorem test_decode_sendcmd :
    decodeTableWord 32 0b10000111000000100000100000000010 = some (.sendcmd 8 2 0x87) := by decide
theorem test_decode_rdblk : decodeTableWord 32 0b00000000000000000000000000000011 = some .rdblk := by decide
theorem test_decode_mount : decodeTableWord 32 0b00000000000000000000000000000100 = some .mount := by decide
theorem test_decode_c2s : decodeTableWord 32 0b00000000000000000000000000000101 = some .c2s := by decide
theorem test_decode_norm : decodeTableWord 32 0b00000000000000000000000000000110 = some .norm := by decide
theorem test_decode_rdfile : decodeTableWord 32 0b00000000000000000000000000000111 = some .rdfile := by decide
theorem test_decode_decr1 : decodeTableWord 32 0b00000000000000000000000000001000 = some .decr1 := by decide
theorem test_decode_decr3 : decodeTableWord 32 0b00000000000000000000000000001001 = some .decr3 := by decide
theorem test_decode_decr7 : decodeTableWord 32 0b00000000000000000000000000001010 = some .decr7 := by decide
theorem test_decode_cmd0 :
    decodeTableWord 48 0b010000000000000000000000000000000000000010010101 = some .cmd0 := by decide
theorem test_decode_cmd8 :
    decodeTableWord 48 0b010010000000000000000000000000011010101010000111 = some .cmd8 := by decide
theorem test_decode_cmd55 :
    decodeTableWord 48 0b011101110000000000000000000000000000000011100101 = some .cmd55 := by decide
theorem test_decode_acmd41 :
    decodeTableWord 48 0b011010010100000000000000000000000000000011110111 = some .acmd41 := by decide
theorem test_decode_cmd58 :
    decodeTableWord 48 0b011110100000000000000000000000000000000010000000 = some .cmd58 := by decide
theorem test_decode_cmd17 :
    decodeTableWord 48 0b010100010000000000000000000010000000000010000000 = some (.cmd17 0x800) := by decide
theorem test_decode_sdframe :
    decodeTableWord 48 0b011111111111111111111111111111111111111111111111 = some (.sdframe 63 0xFFFFFFFF 0x7F) := by
  decide
/-- R114. -/
theorem test_decode_reserved_zero : decodeTableWord 32 0x00000000 = none := by decide
theorem test_decode_reserved_0B : decodeTableWord 32 0x0000000B = none := by decide
/-- R116: no marker bits; no stop bit. -/
theorem test_decode_no_marker : decodeTableWord 48 0xC00000000095 = none := by decide
theorem test_decode_no_stop : decodeTableWord 48 0x400000000015 = none := by decide
/-- R113, V13: the reserved fields are ignored. -/
theorem test_decode_reserved_fields : decodeTableWord 32 0xFFFFFF01 = some .init := by decide
/-- V1, the two rows with STOP_MASK = 0x01. -/
theorem test_framer_stop_mask_one :
    frameBytes (frameWord { Config.default with stopMask := 0x01 } 0 0 0x94) = [0x40, 0, 0, 0, 0, 0x95] ∧
      frameBytes (frameWord { Config.default with stopMask := 0x01 } 55 0 0x65) = [0x77, 0, 0, 0, 0, 0x65] := by
  decide

/-! ## Single steps against the vectors of 95_test_vectors.md -/

/-- V12. -/
theorem test_decr1_ff :
    (next? (exec .decr1 (opState 8 0xFF .start))).map (·.result) = some 0x000003FF := by decide
theorem test_decr1_upper_ignored :
    (next? (exec .decr1 (opState 8 0x12345601 .start))).map (·.result) = some 0x00000401 := by decide
theorem test_decr3_ocr :
    (next? (exec .decr3 (opState 9 0x80FF8000 .start))).map (·.result) = some 0x000007FD := by decide
theorem test_decr7_echo :
    (next? (exec .decr7 (opState 10 0x100001AA .start))).map (·.result) = some 0x0001AA11 := by decide
theorem test_decr7_wrong_echo :
    (next? (exec .decr7 (opState 10 0x000001AB .start))).map (·.result) = some 0x0000AB10 := by decide
/-- V9. -/
theorem test_c2s_wraps :
    (next? (exec .c2s { opState 5 0xFFFFFFFF .start with geo := { Geometry.zero with spc := 8, fds := 1032 } })).map
      (·.result) = some 1008 := by decide
theorem test_c2s_top :
    (next? (exec .c2s { opState 5 0x0FFFFFF7 .start with geo := { Geometry.zero with spc := 8, fds := 1032 } })).map
      (·.result) = some 0x800003B0 := by decide
/-- V10: "config.txt". -/
theorem test_norm_config :
    (next? (exec .norm (named 10 configTxt (opState 6 0 .start)))).map (fun t => (t.norm0, t.norm1, t.norm2)) =
      some (0x464E4F43, 0x20204749, 0x00545854) := by decide
/-- V10: "abcdefghi", nine bytes and no dot. -/
theorem test_norm_too_long :
    (next? (exec .norm (named 9 [0x61, 0x62, 0x63, 0x64, 0x65, 0x66, 0x67, 0x68, 0x69, 0, 0, 0, 0, 0, 0, 0]
      (opState 6 0 .start)))).map (fun t => (t.code, t.norm0)) = some (0x06, 0) := by decide
/-- V8, row 1: FDS, TOTCLUS, BPS, MOUNTED. -/
theorem test_mount_g0 :
    (next? (exec .mount (readDone 4 (.mount .sector0) 0xFE 0 (bootSector 0xE9)))).map
      (fun t => (t.geo.fds, t.geo.totclus, t.geo.bps, t.geo.unused, t.mounted)) =
        some (1032, 124871, 512, 0, true) := by decide
/-- V8, row 5: a byte-swapped signature. -/
theorem test_mount_swapped_signature :
    (next? (exec .mount (readDone 4 (.mount .sector0) 0xFE 0 [(0, 0x00), (510, 0xAA), (511, 0x55)]))).map (·.code) =
      some 0x05 := by decide
/-- V11, row 9: both halves of the cluster; the sector it is read from is C2S(0x00010002) = 0x00080408. -/
theorem test_rdfile_cluster_halves :
    (next? (exec .rdfile
      { readDone 7 (.rdfile (.directory 0 [0x41, 0x20, 0x20, 0x20, 0x20, 0x20, 0x20, 0x20, 0x20, 0x20, 0x20] 1032)) 0xFE 0
        ([(0, 0x41), (1, 0x20), (2, 0x20), (3, 0x20), (4, 0x20), (5, 0x20), (6, 0x20), (7, 0x20), (8, 0x20), (9, 0x20),
          (10, 0x20), (11, 0x20)] ++
         [(20, 1), (21, 0), (26, 2), (27, 0), (28, 12), (29, 0), (30, 0), (31, 0)]) with
        geo := { Geometry.zero with spc := 8, fds := 1032 } })).map (fun t => (t.point, t.txn.frame)) =
      some (.rdfile (.file 0x00010002 12), 0x510008040880) := by decide
/-- V11, last row: the name is checked before the mounted gate. -/
theorem test_rdfile_name_first :
    (next? (exec .rdfile (named 17 configTxt (opState 7 0 .start)))).map (·.code) = some 0x06 := by decide
/-- V5: ten silent CMD0 attempts. -/
theorem test_init_fail_result :
    (next? (exec .init (opState 1 0 (.init (.goIdle 10))))).map (fun t => (t.code, t.result)) =
      some (0x02, 0x00000A01) := by decide
/-- V5: 255 failed iterations. -/
theorem test_init_fail_step_three :
    (next? (exec .init (readDone 1 (.init (.opCond 1 255)) 0xFF 0x01 []))).map (fun t => (t.code, t.result)) =
      some (0x02, 0x00FF0103) := by decide
/-- V6, last row. -/
theorem test_sendcmd_rtype_three :
    (next? (exec (.sendcmd 0 3 0) (opState 0x00030002 0 .start))).map (fun t => (t.code, t.history)) =
      some (0x01, [.opStart 0x02, .opEnd 0x01]) := by decide
/-- V7, first row: STATUS after it (V13, row 4). -/
theorem test_rdblk_not_ready :
    (next? (exec .rdblk (opState 3 0 .start))).map statusWord = some 0x00030802 := by decide
/-- R165: the first primitive of each frame is `CS(SEL)`. -/
theorem test_cmd0_selects :
    (next? (exec .cmd0 (opState 1 0 (.init (.goIdle 1))))).map (fun t => (t.cs, t.txn.frame)) =
      some (.sel, 0x400000000095) := by decide
theorem test_cmd8_reads_r7 :
    (next? (exec .cmd8 (opState 1 0 (.init (.ifCond 1))))).map (fun t => t.txn.kind) = some .r7 := by decide
theorem test_cmd58_reads_r3 :
    (next? (exec .cmd58 (opState 1 0 (.init (.readOcr 1 1))))).map (fun t => t.txn.kind) = some .r3 := by decide
theorem test_cmd55_marker :
    (next? (exec .cmd55 (txnState .r1 (.frame 0)))).map (·.history.getLast?) = some (some (.xchgEv 0x77 0x5A)) := by
  decide
theorem test_acmd41_argument :
    (next? (exec .acmd41 (txnState .r1 (.frame 1)))).map (·.history.getLast?) = some (some (.xchgEv 0x40 0x5A)) := by
  decide
theorem test_cmd17_stop_byte :
    (next? (exec (.cmd17 0x800) (txnState .data (.frame 5)))).map (fun t => (t.history.getLast?, t.txn.phase)) =
      some (some (.xchgEv 0x80 0x5A), .r1Poll 0 0xFF) := by decide
/-- V2: after nine polls of 0xFF a tenth is never made. -/
theorem test_sdframe_no_response :
    (next? (exec (.sdframe 1 0 0) (txnState .r1 (.r1Poll 9 0xFF)))).map (fun t => (t.r1Last, t.txn.phase)) =
      some (0xFF, .settled) := by decide
/-- R172: the last data byte. -/
theorem test_data_last_byte :
    (next? (exec (.cmd17 0x800) (txnState .data (.data 511)))).map (fun t => (t.sb, t.txn.phase)) =
      some ([(511, 0x5A)], .data 512) := by decide
/-- V13, row 1. -/
theorem test_step_illegal_status :
    (next? (step (accept 0x00000000 State.reset))).map statusWord = some 0x00000102 := by decide
/-- V13, row 2. -/
theorem test_step_illegal_status_0B :
    (next? (step (accept 0x0000000B State.reset))).map statusWord = some 0x000B0102 := by decide
/-- R83 (a). -/
theorem test_sb_unwritten_faults :
    step (hostState [.sbRead 3]) = .fault (.unwrittenSectorByte 3) := by rfl
/-- R132: the packing of "config.txt" (V10). -/
theorem test_pseudo_name :
    expand (.name [0x63, 0x6F, 0x6E, 0x66, 0x69, 0x67, 0x2E, 0x74, 0x78, 0x74]) =
      [.write 0x06 10, .write 0x07 0x666E6F63, .write 0x08 0x742E6769, .write 0x09 0x00007478, .write 0x0A 0] := by
  decide
/-- R132: SENDCMD's command word (V6, row 2). -/
theorem test_pseudo_sendcmd :
    expand (.sendcmd 8 0x1AA 2 0x87) = [.write 0x02 0x1AA, .write 0x00 0x87020802] := by decide
/-- The placed word is run by the very next step. -/
theorem test_fetch_word_decr1 :
    (next? (step (State.reset.withFetchWord 32 8))).map (fun t => (t.result, t.code)) = some (0x00000800, 0x00) := by
  decide
theorem test_fetch_word_cmd17 :
    (next? (step (State.reset.withFetchWord 48 0x510000080080))).map (fun t => (t.cs, t.txn.phase, t.txn.frame)) =
      some (.sel, .selected, 0x510000080080) := by decide

/-! ## Witnesses: a state and operands that meet each statement's hypotheses -/

theorem test_witness_DecodeEncodeAgree :
    Instr.wellFormed Config.default (.sdframe 63 0xFFFFFFFF 0x7F) = true ∧
      Instr.wellFormed Config.default (.sendcmd 63 3 0xFF) = true := by decide

theorem test_witness_DecodedFrameReencodes :
    decodeFrame Config.default 0x510000080080 = .ok (.cmd17 0x800) ∧
      decodeFrame Config.default 0x7F0000000080 = .ok (.sdframe 63 0 0) := by decide

theorem test_witness_ReservedFieldsIgnored :
    (0xFFFFFF02 : Word).extractLsb' 0 8 = 0x02 ∧ (0xFFFFFF0A : Word).extractLsb' 0 8 ≠ 0x02 := by decide

theorem test_witness_ReservedOpcodesRejected :
    decodeHost 0x00000000 = .error (.reservedOpcode 0x00) ∧ decodeHost 0x0000000B = .error (.reservedOpcode 0x0B) ∧
      decodeHost 0x000000FF = .error (.reservedOpcode 0xFF) ∧ decodeHost 0x00000001 = .ok .init ∧
      decodeHost 0x0000000A = .ok .decr7 := by decide

theorem test_witness_StopMarkerOnEveryFrame : encode Config.default .cmd58 = .frame 0x7A0000000080 := by decide

theorem test_witness_StepRunsDecodedInstruction_operation :
    (opState 8 0 .start).cfg.admitted = true ∧ (opState 8 0 .start).seq = .run 8 .start ∧
      (opState 8 0 .start).txn.phase = .complete ∧ decodeHost (opState 8 0 .start).latch.cmd = .ok .decr1 ∧
      (opState 8 0 .start).moves = [] ∧ (letEngineMove (opState 8 0 .start)).moves = [.yield] := by decide

theorem test_witness_StepRunsDecodedInstruction_frame :
    (txnState .data .selected).cfg.admitted = true ∧ (txnState .data .selected).seq = .run 3 .rdblk ∧
      (txnState .data .selected).txn.phase ≠ .complete ∧
      decodeFrame (txnState .data .selected).cfg (txnState .data .selected).txn.frame = .ok (.cmd17 0x800) ∧
      (txnState .data .selected).moves = [] ∧ (letEngineMove (txnState .data .selected)).moves = [.yield] := by decide

theorem test_witness_StepRunsDecodedInstruction_rest :
    State.reset.cfg.admitted = true ∧ State.reset.moves = [] ∧ State.reset.seq = .idle ∧
      decodeTableWord 32 0x87020802 = some (.sendcmd 8 2 0x87) := by decide

theorem test_witness_StepAdvancesTransaction :
    (txnState .data (.frame 5)).cfg.admitted = true ∧ (txnState .data (.frame 5)).moves = [] ∧
      (txnState .data (.frame 5)).seq = .run 3 .rdblk ∧ (txnState .data (.frame 5)).txn.phase ≠ .complete := by decide

theorem test_witness_IllegalWordFinishes :
    State.reset.cfg.admitted = true ∧ State.reset.moves = [] ∧ (0xFFFFFF00 : Word).extractLsb' 0 8 = 0 ∧
      0x0B ≤ ((0x0000000B : Word).extractLsb' 0 8).toNat ∧ 0x0B ≤ ((0x000000FF : Word).extractLsb' 0 8).toNat ∧
      ((0x00030002 : Word).extractLsb' 0 8 = 0x02 ∧ (0x00030002 : Word).extractLsb' 16 2 = 3) := by decide

theorem test_witness_ConfigurationRefused :
    ({ Config.default with r1PollMax := 0 } : Config).r1PollMax = 0 ∧
      (List.range 8).countP (fun i => ({ Config.default with stopMask := 0x81 } : Config).stopMask.getLsbD i) ≠ 1 ∧
      (List.range 8).countP (fun i => ({ Config.default with stopMask := 0x00 } : Config).stopMask.getLsbD i) ≠ 1 ∧
      ({ Config.default with checkPattern := 0xAB } : Config).checkPattern ≠
        ({ Config.default with checkPattern := 0xAB } : Config).cmd8Arg.extractLsb' 0 8 := by decide

theorem test_witness_Decr1Classifies : (opState 8 0xFF .start).txn.phase = .complete := by decide
theorem test_witness_Decr3Decodes : (opState 9 0xC0FF8000 .start).txn.phase = .complete := by decide
theorem test_witness_Decr7Decodes : (opState 10 0x1AA .start).txn.phase = .complete := by decide
theorem test_witness_C2sMapsClusters : (opState 5 0xFFFFFFFF .start).txn.phase = .complete := by decide

theorem test_witness_NormNormalizes_short :
    (named 10 configTxt (opState 6 0 .start)).txn.phase = .complete ∧
      LatchInv (named 10 configTxt (opState 6 0 .start)) ∧ ¬ NameTooLong 10 configTxt := by
  refine ⟨by decide, by decide, ?_⟩
  unfold NameTooLong
  decide

/-- Both ways of being too long, and the longest names that are not: no dot among 8 bytes, the dot as the ninth. -/
theorem test_witness_NormNormalizes_long :
    NameTooLong 17 configTxt ∧ NameTooLong 9 (List.replicate 16 0x61) ∧ ¬ NameTooLong 8 (List.replicate 16 0x61) ∧
      ¬ NameTooLong 9 (List.replicate 8 0x61 ++ List.replicate 8 0x2E) := by
  unfold NameTooLong
  decide

theorem test_witness_MountStarts :
    (opState 4 0 .start).txn.phase = .complete ∧ inMount (opState 4 0 .start).point = false ∧
      (opState 4 0 .start).cardReady = false ∧
      ({ opState 4 0 .start with cardReady := true } : State).cardReady = true := by decide

theorem test_witness_MountCommitsGeometry :
    (readDone 4 (.mount (.partition 2048)) 0xFE 0 (bootSector 0xEB)).txn.phase = .complete ∧
      (readDone 4 (.mount (.partition 2048)) 0xFE 0 (bootSector 0xEB)).txn.tok = 0xFE ∧
      (readDone 4 (.mount (.partition 2048)) 0xFE 0 (bootSector 0xEB)).sbByte 0 = 0xEB ∧
      (readDone 4 (.mount .sector0) 0xFE 0 (bootSector 0xE9)).sbByte 0 = 0xE9 ∧
      (readDone 4 (.mount .sector0) 0xFE 0 (bootSector 0xE9)).point = .mount .sector0 ∧
      (readDone 4 (.mount (.partition 2048)) 0xFE 0 (bootSector 0xEB)).point = .mount (.partition 2048) := by decide

theorem test_witness_MountOtherwise :
    (readDone 4 (.mount .sector0) 0x09 0 []).txn.tok ≠ 0xFE ∧
      inMount (readDone 4 (.mount .sector0) 0x09 0 []).point = true ∧
      (readDone 4 (.mount .sector0) 0xFE 0 [(0, 0), (510, 0x55), (511, 0xAA)]).sbByte 0 ≠ 0xE9 ∧
      (readDone 4 (.mount .sector0) 0xFE 0 [(0, 0), (510, 0x55), (511, 0xAA)]).sbByte 0 ≠ 0xEB ∧
      (readDone 4 (.mount .sector0) 0xFE 0 [(0, 0), (510, 0x55), (511, 0xAA)]).sbByte 510 = 0x55 ∧
      (readDone 4 (.mount .sector0) 0xFE 0 [(0, 0), (510, 0x55), (511, 0xAA)]).sbByte 511 = 0xAA ∧
      ¬ ((readDone 4 (.mount .sector0) 0xFE 0 [(0, 0), (510, 0xAA), (511, 0x55)]).sbByte 510 = 0x55 ∧
        (readDone 4 (.mount .sector0) 0xFE 0 [(0, 0), (510, 0xAA), (511, 0x55)]).sbByte 511 = 0xAA) ∧
      (readDone 4 (.mount (.partition 7)) 0xFE 0 [(0, 0)]).point = .mount (.partition 7) ∧
      (readDone 4 (.mount (.partition 7)) 0xFE 0 [(0, 0)]).sbByte 0 ≠ 0xE9 := by decide

theorem test_witness_RdfileStarts :
    (named 10 configTxt (opState 7 0 .start)).txn.phase = .complete ∧
      (named 10 configTxt (opState 7 0 .start)).point = .start ∧ LatchInv (named 10 configTxt (opState 7 0 .start)) ∧
      (named 10 configTxt (opState 7 0 .start)).cfg.admitted = true ∧ ¬ NameTooLong 10 configTxt ∧
      NameTooLong 17 configTxt ∧ (named 10 configTxt (opState 7 0 .start)).mounted = false ∧
      ({ named 10 configTxt (opState 7 0 .start) with mounted := true } : State).mounted = true := by
  unfold NameTooLong
  decide

/-- A directory sector of which the first byte of each entry `e < n` is 0x78 with attribute 0, so that none of them is
a terminator or a match. -/
def entries (n : Nat) : Memory := (List.range n).flatMap (fun e => [(32 * e, 0x78), (32 * e + 11, 0x00)])

/-- Entry 0 the terminator; entry 15 a terminator after fifteen others; a match in entry 0; and 16 entries of neither
kind, with the scan extent at its end. -/
theorem test_witness_RdfileScans :
    isTerminator (readDone 7 (.rdfile (.directory 0 (List.replicate 11 0x41) 1032)) 0xFE 0 [(0, 0)]) 0 ∧
      (∀ j < 15, ¬ isTerminator
          (readDone 7 (.rdfile (.directory 0 (List.replicate 11 0x41) 1032)) 0xFE 0 (entries 15 ++ [(480, 0)])) j ∧
        ¬ isMatch (readDone 7 (.rdfile (.directory 0 (List.replicate 11 0x41) 1032)) 0xFE 0 (entries 15 ++ [(480, 0)]))
          (List.replicate 11 0x41) j) ∧
      isTerminator
        (readDone 7 (.rdfile (.directory 0 (List.replicate 11 0x41) 1032)) 0xFE 0 (entries 15 ++ [(480, 0)])) 15 ∧
      isMatch (readDone 7 (.rdfile (.directory 0 (List.replicate 11 0x41) 1032)) 0xFE 0
        ((List.range 11).map (fun k => (k, 0x41)) ++ [(11, 0x20)])) (List.replicate 11 0x41) 0 ∧
      (∀ j < 16, ¬ isTerminator
          (readDone 7 (.rdfile (.directory 0 (List.replicate 11 0x41) 1032)) 0xFE 0 (entries 16)) j ∧
        ¬ isMatch (readDone 7 (.rdfile (.directory 0 (List.replicate 11 0x41) 1032)) 0xFE 0 (entries 16))
          (List.replicate 11 0x41) j) ∧
      (readDone 7 (.rdfile (.directory 0 (List.replicate 11 0x41) 1032)) 0x09 0 []).txn.tok ≠ 0xFE ∧
      (List.replicate 11 (0x41 : Byte)).length = 11 ∧ Config.default.rootScanSectors ≤ 0 + 1 := by
  unfold isTerminator isMatch
  decide

theorem test_witness_RdfileCompletes :
    (readDone 7 (.rdfile (.file 5 12)) 0xFE 0 []).txn.phase = .complete ∧
      (readDone 7 (.rdfile (.file 5 12)) 0xFE 0 []).point = .rdfile (.file 5 12) ∧
      (readDone 7 (.rdfile (.file 5 12)) 0xFE 0 []).txn.tok = 0xFE ∧
      (readDone 7 (.rdfile (.file 5 12)) 0x09 0 []).txn.tok ≠ 0xFE := by decide

theorem test_witness_InitPowersUp :
    (opState 1 0 .start).txn.phase = .complete ∧ (opState 1 0 .start).point = .start ∧
      (opState 1 0 (.init .powered)).point = .init .powered ∧
      (opState 1 0 (.init (.fillers 10))).point = .init (.fillers (9 + 1)) ∧
      (opState 1 0 (.init (.fillers 0))).point = .init (.fillers 0) := by decide

theorem test_witness_InitIdleAndInterfaceCheck :
    (readDone 1 (.init (.goIdle 1)) 0xFF 0x01 []).txn.r1 = 0x01 ∧
      (readDone 1 (.init (.goIdle 9)) 0xFF 0xFF []).txn.r1 ≠ 0x01 ∧ 9 < Config.default.idleAttempts ∧
      Config.default.idleAttempts ≤ 10 ∧ (readDone 1 (.init (.ifCond 1)) 0xFF 0x01 []).txn.r1.toNat ≤ 1 ∧
      1 < (readDone 1 (.init (.ifCond 1)) 0xFF 0x02 []).txn.r1.toNat ∧
      (0x000001AA : Word).extractLsb' 0 8 = Config.default.checkPattern ∧
      (0x000001AB : Word).extractLsb' 0 8 ≠ Config.default.checkPattern ∧
      (readDone 1 (.init (.ifCond 1)) 0xFF 0x01 []).point = .init (.ifCond 1) := by decide

theorem test_witness_InitNegotiates :
    (readDone 1 (.init (.appCmd 1 1)) 0xFF 0x01 []).point = .init (.appCmd 1 1) ∧
      (readDone 1 (.init (.appCmd 1 1)) 0xFF 0x01 []).txn.r1.toNat ≤ 1 ∧
      1 < (readDone 1 (.init (.appCmd 1 1)) 0xFF 0x02 []).txn.r1.toNat ∧
      (readDone 1 (.init (.opCond 1 255)) 0xFF 0x00 []).txn.r1 = 0x00 ∧
      (readDone 1 (.init (.opCond 1 255)) 0xFF 0x01 []).txn.r1 ≠ 0x00 ∧
      (readDone 1 (.init (.opCond 1 255)) 0xFF 0x01 []).point = .init (.opCond 1 255) ∧
      254 < Config.default.appAttempts ∧ Config.default.appAttempts ≤ 255 ∧
      (readDone 1 (.init (.paced 1 254)) 0xFF 0x01 []).point = .init (.paced 1 254) := by decide

theorem test_witness_InitCompletes :
    (readDone 1 (.init (.ocrSettled 1 3)) 0xFF 0x00 []).point = .init (.ocrSettled 1 3) ∧
      (readDone 1 (.init (.readOcr 1 3)) 0xFF 0xFF []).point = .init (.readOcr 1 3) ∧
      (readDone 1 (.init (.readOcr 1 3)) 0xFF 0xFF []).txn.phase = .complete := by decide

theorem test_witness_SendcmdSendsAndCompletes :
    (opState 0x87020802 0x1AA .start).txn.phase = .complete ∧ (opState 0x87020802 0x1AA .start).point = .start ∧
      (readDone 0x87020802 .sendcmd 0xFF 0xFF []).point = .sendcmd ∧
      (readDone 0x87020802 .sendcmd 0xFF 0xFF []).txn.phase = .complete := by decide

theorem test_witness_RdblkReadsAndCompletes :
    (opState 3 0 .start).txn.phase = .complete ∧ (opState 3 0 .start).point = .start ∧
      (opState 3 0 .start).cardReady = false ∧ (readDone 3 .start 0xFF 0xFF []).cardReady = true ∧
      (readDone 3 .rdblk 0xFE 0x00 []).point = .rdblk ∧ (readDone 3 .rdblk 0xFE 0x00 []).txn.tok = 0xFE ∧
      (readDone 3 .rdblk 0xFF 0x00 []).txn.tok ≠ 0xFE := by decide

theorem test_witness_FrameBracket :
    encode Config.default (.cmd17 0x800) = .frame 0x510000080080 ∧ (opState 3 0x800 .rdblk).txn.phase = .complete ∧
      (txnState .data .selected).txn.phase = .selected ∧ (txnState .data .settled).txn.phase = .settled ∧
      (txnState .data .deselected).txn.phase = .deselected := by decide

theorem test_witness_FrameBytesSentInOrder :
    encode Config.default (.cmd17 0x800) = .frame 0x510000080080 ∧
      (txnState .data (.frame 5)).txn.phase = .frame 5 ∧ (frameBytes 0x510000080080)[5]? = some 0x80 ∧
      (frameBytes 0x510000080080)[0]? = some 0x51 := by decide

theorem test_witness_ReadR1Polls :
    encode Config.default .cmd0 = .frame 0x400000000095 ∧
      (txnState .r1 (.r1Poll 8 0xFF)).txn.phase = .r1Poll 8 0xFF ∧ 8 < Config.default.r1PollMax ∧
      (txnState .r1 (.r1Poll 9 0xFF)).txn.phase = .r1Poll 9 0xFF ∧ Config.default.r1PollMax ≤ 9 ∧
      (txnState .r1 (.r1Poll 9 0xFF)).txn.kind = .r1 := by decide

theorem test_witness_ReadR37Reads :
    encode Config.default .cmd8 = .frame 0x48000001AA87 ∧ (txnState .r7 (.r1Poll 1 0x01)).txn.kind = .r7 ∧
      (txnState .r3 (.r1Poll 1 0x02)).txn.kind = .r3 ∧ 1 < (0x02 : Byte).toNat ∧ (0x01 : Byte).toNat ≤ 1 ∧
      (txnState .r7 (.trailing [1, 2, 3])).txn.phase = .trailing [1, 2, 3] ∧
      (txnState .r7 (.trailing [1, 2, 3, 4])).txn.phase = .trailing [1, 2, 3, 4] := by decide

theorem test_witness_ReadDataPollsToken :
    encode Config.default (.cmd17 0) = .frame 0x510000000080 ∧ (txnState .data (.r1Poll 1 0x04)).txn.kind = .data ∧
      (txnState .data (.r1Poll 1 0x04)).txn.phase = .r1Poll 1 0x04 ∧ 1 ≤ Config.default.tokenPollMax ∧
      (txnState .data (.tokenPoll 1499 0xFF)).txn.phase = .tokenPoll 1499 0xFF ∧ 1499 < Config.default.tokenPollMax ∧
      (txnState .data (.tokenPoll 1500 0xFF)).txn.phase = .tokenPoll 1500 0xFF ∧ Config.default.tokenPollMax ≤ 1500 ∧
      (txnState .data (.tokenPoll 1 0x09)).txn.phase = .tokenPoll 1 0x09 := by decide

theorem test_witness_DataPhaseStores :
    (txnState .data (.tokenPoll 1 0xFE)).txn.phase = .tokenPoll 1 0xFE ∧
      (txnState .data (.data 511)).txn.phase = .data 511 ∧ (txnState .data (.data 512)).txn.phase = .data 512 ∧
      (txnState .data .crc1).txn.phase = .crc1 ∧ (txnState .data .crc2).txn.phase = .crc2 := by decide

theorem test_witness_InstructionsLeaveHostState :
    ∃ t, exec .init (opState 1 0 .start) = .next t := ⟨_, rfl⟩

theorem test_witness_ResultsWrittenByTheirOwners :
    (∃ t, exec .cmd0 (opState 1 0 .start) = .next t) ∧ Instr.cmd0 ∉ ([.init, .c2s, .decr1, .decr3, .decr7] : List Instr) ∧
      Instr.init ∉ ([.norm, .rdfile] : List Instr) ∧ Instr.cmd0 ∉ ([.init, .mount] : List Instr) :=
  ⟨⟨_, rfl⟩, by decide, by decide, by decide⟩

theorem test_witness_OnlyTransactionsWriteResponses :
    isHostOp .rdblk = true ∧ (opState 3 0 .start).txn.phase = .complete ∧
      (∃ t, exec .rdblk (opState 3 0 .start) = .next t) ∧ (∃ t, exec .c2s (opState 5 0 .start) = .next t) :=
  ⟨rfl, rfl, ⟨_, rfl⟩, ⟨_, rfl⟩⟩

theorem test_witness_OnlyTheStoredByteChanges :
    (∃ t, exec (.cmd17 0x800) (txnState .data (.data 511)) = .next t) ∧
      storeIndex (txnState .data (.data 511)) = some 511 ∧ storeIndex (txnState .data (.data 512)) = none ∧
      storeIndex (txnState .data (.tokenPoll 1 0xFE)) = some 0 ∧
      storeIndex (opState 3 0 .start) = none := ⟨⟨_, rfl⟩, by decide⟩

theorem test_witness_HostWritesReachTheirRegisters :
    (hostState [.write 0x06 0xFF]).cfg.admitted = true ∧ (hostState [.write 0x06 0xFF]).moves = [.write 0x06 0xFF] ∧
      (3 ≤ (0x03 : BitVec 6).toNat ∧ (0x05 : BitVec 6).toNat ≤ 5) ∧ 0x0B ≤ (0x0B : BitVec 6).toNat ∧
      0x0B ≤ (0x3F : BitVec 6).toNat := by decide

theorem test_witness_CommandAcceptedOrDropped :
    (hostState [.write 0x00 1]).cfg.admitted = true ∧ (hostState [.write 0x00 1]).moves = [.write 0x00 1] ∧
      (hostState [.write 0x00 1]).busy = false ∧
      ({ opState 1 0 .start with moves := [.write 0x00 4] } : State).busy = true := by decide

theorem test_witness_PseudoInstructionsIssue :
    (hostState (expand (.sendcmd 8 0x1AA 2 0x87))).cfg.admitted = true ∧
      (hostState (expand (.sendcmd 8 0x1AA 2 0x87))).busy = false ∧
      (hostState (expand (.sendcmd 8 0x1AA 2 0x87))).moves = expand (.sendcmd 8 0x1AA 2 0x87) ∧
      (hostState (expand (.decr7 0x1AA))).moves = expand (.decr7 0x1AA) := by decide

theorem test_witness_RegisterReads :
    (hostState [.read 0x04]).cfg.admitted = true ∧ (hostState [.read 0x04]).moves = [.read 0x04] ∧
      (hostState [.read 0x04]).busy = false ∧ (0x02 : BitVec 6).toNat ≤ 2 ∧ 6 ≤ (0x06 : BitVec 6).toNat ∧
      (0x0A : BitVec 6).toNat ≤ 0x0A ∧ 0x1B ≤ (0x1B : BitVec 6).toNat ∧ 0x1B ≤ (0x3F : BitVec 6).toNat := by decide

theorem test_witness_OutputsWhileBusy :
    ({ opState 1 0 .start with moves := [.read 0x03] } : State).cfg.admitted = true ∧
      ({ opState 1 0 .start with moves := [.read 0x03] } : State).busy = true ∧
      (3 ≤ (0x03 : BitVec 6).toNat ∧ (0x05 : BitVec 6).toNat ≤ 5) ∧
      (0x0B ≤ (0x0B : BitVec 6).toNat ∧ (0x1A : BitVec 6).toNat ≤ 0x1A) := by decide

theorem test_witness_SectorBufferPort :
    ({ opState 7 0 .start with moves := [.sbRead 0] } : State).busy = true ∧
      ({ opState 7 0 .start with moves := [.sbRead 0] } : State).lastOpc = 0x07 ∧
      (hostState [.sbRead 511]).busy = false ∧ (hostState [.sbRead 511]).sb.read 511 = none ∧
      ({ hostState [.sbRead 511] with sb := [(511, 0x5A)] } : State).sb.read 511 = some 0x5A := by decide

theorem test_witness_ResetAtAnyTime :
    ({ txnState .data (.data 100) with moves := [.reset] } : State).cfg.admitted = true ∧
      ({ txnState .data (.data 100) with moves := [.reset] } : State).moves = [.reset] := by decide

theorem test_witness_SessionKept :
    SessionInv (txnState .data (.frame 3)) ∧ ∃ t, step (txnState .data (.frame 3)) = .next t :=
  ⟨by decide, _, rfl⟩

theorem test_witness_MountedImpliesReadyKept :
    ReadyInv (readDone 4 (.mount .sector0) 0xFE 0 (bootSector 0xE9)) ∧
      (readDone 4 (.mount .sector0) 0xFE 0 (bootSector 0xE9)).mounted = true ∧
      ∃ t, step (readDone 4 (.mount .sector0) 0xFE 0 (bootSector 0xE9)) = .next t :=
  ⟨by decide, by decide, _, rfl⟩

theorem test_witness_RegisterFormsKept :
    CodeInv (opState 6 0 .start) ∧ NormInv (opState 6 0 .start) ∧ LatchInv (opState 6 0 .start) ∧
      ∃ t, step (opState 6 0 .start) = .next t :=
  ⟨by decide, by decide, by decide, _, rfl⟩

/-- Two data bytes are in, the third comes next. -/
theorem test_witness_SectorBufferKept :
    SectorInv { txnState .data (.data 2) with sb := [(0, 0x11), (1, 0x22)] } ∧
      ∃ t, step { txnState .data (.data 2) with sb := [(0, 0x11), (1, 0x22)] } = .next t :=
  ⟨⟨by decide, by decide, by decide, fun _ h => by cases h⟩, _, rfl⟩

/-- The last poll the budget allows has been made. -/
theorem test_witness_BudgetsKept :
    BudgetInv { txnState .r1 (.r1Poll 9 0xFF) with seq := .run 1 (.init (.goIdle 10)) } ∧
      ∃ t, step { txnState .r1 (.r1Poll 9 0xFF) with seq := .run 1 (.init (.goIdle 10)) } = .next t := by
  refine ⟨?_, _, rfl⟩
  show 10 ≤ Config.default.idleAttempts ∧ 9 ≤ Config.default.r1PollMax
  decide

/-- The card has just been selected for CMD17. -/
theorem test_witness_BusDisciplineKept :
    BusInv { txnState .data .selected with history := [.opStart 3, .csEv .sel] } ∧
      ∃ t, step { txnState .data .selected with history := [.opStart 3, .csEv .sel] } = .next t :=
  ⟨⟨by decide, fun _ => ⟨by decide, by decide, fun _ h => by cases h⟩, by decide⟩, _, rfl⟩

theorem test_witness_EngineStepsCountDown :
    (txnState .data (.data 511)).seq.running = true ∧ (opState 1 0 (.init .powered)).seq.running = true := by decide

theorem test_witness_R1TransactionRuns :
    sentBytes Config.default .cmd0 = [0x40, 0, 0, 0, 0, 0x95] ∧
      sentBytes Config.default (.sdframe 63 0xFFFFFFFF 0x7F) = [0x7F, 0xFF, 0xFF, 0xFF, 0xFF, 0xFF] ∧
      (opState 1 0 (.init (.goIdle 1))).txn.phase = .complete ∧ 8 < Config.default.r1PollMax ∧
      ({ opState 1 0 (.init (.goIdle 1)) with cardIn := List.replicate 15 0xFF ++ [0x01, 0xFF, 0xFF] } : State).cardIn =
        [0xFF, 0xFF, 0xFF, 0xFF, 0xFF, 0xFF, 0xFF] ++ List.replicate 8 0xFF ++ [0x01, 0xFF, 0xFF] ++ [] := by decide

theorem test_witness_R37TransactionRuns :
    sentBytes Config.default .cmd8 = [0x48, 0, 0, 1, 0xAA, 0x87] ∧
      sentBytes Config.default .cmd58 = [0x7A, 0, 0, 0, 0, 0x80] ∧ (0x01 : Byte).toNat ≤ 1 ∧
      ({ opState 1 0 (.init (.ifCond 1)) with
          cardIn := List.replicate 7 0xFF ++ [0x01, 0x00, 0x00, 0x01, 0xAA, 0xFF, 0xFF] } : State).cardIn =
        [0xFF, 0xFF, 0xFF, 0xFF, 0xFF, 0xFF, 0xFF] ++ List.replicate 0 0xFF ++
          [0x01, 0x00, 0x00, 0x01, 0xAA, 0xFF, 0xFF] ++ [] := by decide

theorem test_witness_BlockReadRuns :
    (opState 3 0x800 .rdblk).txn.phase = .complete ∧ (List.replicate 7 (0xFF : Byte)).length = 7 ∧
      (List.replicate 512 (0x5A : Byte)).length = 512 ∧ 8 < Config.default.r1PollMax ∧
      1499 < Config.default.tokenPollMax ∧ (0x00 : Byte).toNat ≤ 1 ∧
      ∃ s : State, s.txn.phase = .complete ∧ s.cfg = Config.default ∧
        s.cardIn = List.replicate 7 0xFF ++ List.replicate 1 0xFF ++ [0x00] ++ List.replicate 2 0xFF ++ [0xFE] ++
          List.replicate 512 0x5A ++ [0x12, 0x34, 0xFF, 0xFF] ++ [] :=
  ⟨rfl, rfl, List.length_replicate, by decide, by decide, by decide, { opState 3 0x800 .rdblk with
    cardIn := List.replicate 7 0xFF ++ List.replicate 1 0xFF ++ [0x00] ++ List.replicate 2 0xFF ++ [0xFE] ++
      List.replicate 512 0x5A ++ [0x12, 0x34, 0xFF, 0xFF] ++ [] }, rfl, rfl, rfl⟩

end Sys2Proof.Tests
end

/-! # Proofs: the configuration, dispatch and the loop budgets (00_scope.md R11-R13, R20; 10_state.md R45) -/

section
/-! ## The configuration and the step (R13, R20)

Which configurations are admitted, and what one step of the whole is in terms of the engine's step and the host's moves. -/

namespace Sys2Proof

theorem Config.admitted_iff (c : Config) :
    c.admitted = true ↔
      1 ≤ c.r1PollMax ∧ 1 ≤ c.idleAttempts ∧ 1 ≤ c.appAttempts ∧ 1 ≤ c.tokenPollMax ∧ 1 ≤ c.rootScanSectors ∧
        10 ≤ c.pwrupFillers ∧ oneBit c.stopMask = true ∧ c.checkPattern = c.cmd8Arg.extractLsb' 0 8 := by
  simp [Config.admitted, and_assoc]

/-- The model's arithmetic test for a one-bit mask agrees with counting the bits. -/
theorem oneBit_iff_countP (m : Byte) : oneBit m = true ↔ (List.range 8).countP (fun i => m.getLsbD i) = 1 := by
  revert m; decide

namespace Machine

theorem step_of_not_admitted (s : State) (h : s.cfg.admitted = false) : step s = .refused .configNotAdmitted := by
  simp [step, advance, h]

theorem step_of_moves_nil (s : State) (ha : s.cfg.admitted = true) (hm : s.moves = []) : step s = engineStep s := by
  simp [step, advance, ha, hm]

theorem step_of_moves_yield (s : State) (rest : List HostMove) (ha : s.cfg.admitted = true)
    (hm : s.moves = .yield :: rest) : step s = engineStep { s with moves := rest } := by
  simp [step, advance, ha, hm]

/-- `t` differs from `s` at most in what a host access may touch other than an acceptance or a reset: the operand
registers, OVERRUN, and the host's own moves, reads and draws. -/
def HostOnly (s t : State) : Prop :=
  t = { s with
    arg := t.arg, nameLen := t.nameLen, name0 := t.name0, name1 := t.name1, name2 := t.name2, name3 := t.name3
    overrun := t.overrun, moves := t.moves, reads := t.reads, draws := t.draws }

/-- A register write is an acceptance, which needs BUSY = 0 (R286), or leaves the block to go on as it was. -/
theorem regWrite_cases (n : BitVec 6) (v : Word) (s : State) :
    (s.busy = false ∧ regWrite n v s = accept v s) ∨ HostOnly s (regWrite n v s) := by
  unfold regWrite
  split
  · cases hb : s.busy
    · exact .inl ⟨rfl, by simp [writeCmd, hb]⟩
    · exact .inr (by simp [writeCmd, hb, HostOnly])
  · exact .inr (by split <;> rfl)
  all_goals exact .inr rfl

theorem hostOnly_portRead (n : BitVec 6) (s : State) : HostOnly s (portRead n s) := by
  unfold portRead; split <;> rfl

theorem hostOnly_portSbRead (i : BitVec 9) (s t : State) (h : portSbRead i s = .next t) : HostOnly s t := by
  unfold portSbRead at h
  split at h
  · cases h; rfl
  · split at h <;> cases h; rfl

/-- Taking a move away first is a host access like any other. -/
theorem HostOnly.of_moves {s t : State} {m : List HostMove} (h : HostOnly { s with moves := m } t) : HostOnly s t := h

/-- All that one step of the whole can do (R20, R96): the engine moves, the host resets the block, a command word is
accepted while idle, or the host makes an access that leaves the running operation alone. -/
theorem step_cases (s t : State) (h : step s = .next t) :
    s.cfg.admitted = true ∧
      ((∃ m, engineStep { s with moves := m } = .next t) ∨
        (∃ m, t = resetBlock { s with moves := m }) ∨
        (∃ m w, s.busy = false ∧ t = accept w { s with moves := m }) ∨
        HostOnly s t) := by
  cases ha : s.cfg.admitted
  · simp [step_of_not_admitted s ha] at h
  refine ⟨rfl, ?_⟩
  simp only [step, advance, ha, if_true] at h
  cases hm : s.moves with
  | nil =>
    simp only [hm] at h
    exact .inl ⟨s.moves, h⟩
  | cons move rest =>
    simp only [hm] at h
    cases move with
    | yield => exact .inl ⟨rest, h⟩
    | write n v =>
      cases h
      rcases regWrite_cases n v { s with moves := rest } with ⟨hb, ht⟩ | ht
      · exact .inr (.inr (.inl ⟨rest, v, hb, ht⟩))
      · exact .inr (.inr (.inr ht.of_moves))
    | read n =>
      cases h
      exact .inr (.inr (.inr (hostOnly_portRead n { s with moves := rest }).of_moves))
    | sbRead i => exact .inr (.inr (.inr (hostOnly_portSbRead i _ t h).of_moves))
    | wait =>
      dsimp only at h
      split at h
      · exact .inl ⟨s.moves, h⟩
      · cases h
        exact .inr (.inr (.inr (hostOnly_portRead 0x01 { s with moves := rest }).of_moves))
    | reset =>
      cases h
      exact .inr (.inl ⟨rest, rfl⟩)

end Machine

end Sys2Proof
end

section
/-! ## The engine's step (R45)

Which instruction the engine executes, and that all it can do is one step of the transaction under way or, outside one,
what the latched operation does at its point. -/

namespace Sys2Proof

/-- The instruction a frame decodes to sends that very frame (R116, R119). -/
theorem encode_of_decodeFrame (c : Config) (f : BitVec 48) (i : Instr) (h : decodeFrame c f = .ok i) :
    encode c i = .frame f := by
  unfold decodeFrame at h
  split at h
  · cases h
  rename_i hmark
  split at h
  · cases h
  rename_i hstop
  iterate 6
    split at h
    · cases h; rename_i hf; exact congrArg _ hf.symm
  cases h
  exact congrArg _ (frameWord_fields c f (not_not.mp hmark) (not_not.mp hstop))

namespace Machine

/-- Inside a transaction the engine runs the frame being sent. -/
theorem engineStep_frame (s : State) (op : Byte) (p : Point) (i : Instr) (hseq : s.seq = .run op p)
    (hph : s.txn.phase ≠ .complete) (hdec : decodeFrame s.cfg s.txn.frame = .ok i) : engineStep s = exec i s := by
  simp only [engineStep, fetch, hseq, if_neg hph, hdec]

/-- Inside a transaction the engine's step is the transaction's own, whatever the frame's bytes are. -/
theorem engineStep_transaction (s : State) (op : Byte) (p : Point) (hseq : s.seq = .run op p)
    (hph : s.txn.phase ≠ .complete) : engineStep s = .next (transactionStep s) := by
  cases hdec : decodeFrame s.cfg s.txn.frame with
  | error e => simp only [engineStep, fetch, hseq, if_neg hph, hdec]
  | ok i =>
    rw [engineStep_frame s op p i hseq hph hdec, exec_frame i s _ (encode_of_decodeFrame _ _ _ hdec), frameStep,
      if_neg hph]

/-- Outside a transaction a host operation does what its point says. -/
theorem exec_resume (i : Instr) (s : State) (hi : isHostOp i = true) (hph : s.txn.phase = .complete) :
    exec i s = .next (resumeOf i s.point s) := by
  rw [exec_hostOp i s hi, operationStep, if_pos hph]

/-- All that one engine step can do: nothing at IDLE, a transaction's next step, the latched operation at its point,
or the completion of an illegal word. -/
theorem engineStep_cases (s t : State) (h : engineStep s = .next t) :
    (s.seq = .idle ∧ t = s) ∨
      (s.seq ≠ .idle ∧ s.txn.phase ≠ .complete ∧ t = transactionStep s) ∨
      (s.seq ≠ .idle ∧ s.txn.phase = .complete ∧
        ((∃ i, decodeHost s.latch.cmd = .ok i ∧ t = resumeOf i s.point s) ∨
          (∃ e, decodeHost s.latch.cmd = .error e ∧ t = illegalOp s))) := by
  cases hseq : s.seq with
  | idle =>
    rw [engineStep_idle s hseq] at h; cases h
    exact .inl ⟨rfl, rfl⟩
  | run op p =>
    refine .inr ?_
    by_cases hph : s.txn.phase = .complete
    · refine .inr ⟨nofun, hph, ?_⟩
      cases hdec : decodeHost s.latch.cmd with
      | ok i =>
        rw [engineStep_operation s op p i hseq hph hdec, exec_resume i s (decodeHost_isHostOp _ i hdec) hph] at h
        cases h
        exact .inl ⟨i, rfl, rfl⟩
      | error e =>
        rw [engineStep_illegal s op p e hseq hph hdec] at h; cases h
        exact .inr ⟨e, rfl, rfl⟩
    · rw [engineStep_transaction s op p hseq hph] at h; cases h
      exact .inl ⟨nofun, hph, rfl⟩

end Machine

end Sys2Proof
end

section
/-! ## The loop budgets (R12, R161, R171, R182, R184, R241)

A budget is kept by the guard in front of each loop's next turn. The loops inside a transaction are bounded by its
position alone, the loops of INIT and of RDFILE's scan by the operation's point. -/

namespace Sys2Proof.Machine

open withinBudget (pollsWithin)

/-- The loops that go round outside a transaction are within their budgets at a point: the counters of INIT (R182,
R184) and the directory sector of RDFILE's scan (R241). -/
def attemptsWithin (c : Config) : Point → Prop
  | .init (.goIdle a) | .init (.ifCond a) => a ≤ c.idleAttempts
  | .init (.appCmd a n) | .init (.opCond a n) | .init (.ocrSettled a n) | .init (.readOcr a n) =>
    a ≤ c.idleAttempts ∧ n ≤ c.appAttempts
  | .init (.paced a n) => a ≤ c.idleAttempts ∧ n < c.appAttempts
  | .rdfile (.directory k _ _) => k < c.rootScanSectors
  | .init .powered | .init (.fillers _) | .start | .sendcmd | .rdblk | .mount _ | .rdfile (.file _ _) => True

/-- The budget of a point and a position is that of the point's loops and that of the position's. -/
theorem withinBudget_iff (c : Config) (p : Point) (ph : Phase) :
    withinBudget c p ph ↔ attemptsWithin c p ∧ pollsWithin c ph := by
  cases p with
  | init q => cases q <;> simp [withinBudget, attemptsWithin, and_assoc]
  | rdfile q => cases q <;> simp [withinBudget, attemptsWithin]
  | start | sendcmd | rdblk | mount q => simp [withinBudget, attemptsWithin]

/-! ### The loops of a transaction -/

theorem pollsWithin_readTrailing (got : List Byte) (s : State) :
    pollsWithin s.cfg (readTrailing got s).txn.phase := by
  unfold readTrailing
  split
  · show (got ++ [s.nextIn]).length ≤ 4
    simp only [List.length_append, List.length_singleton]
    omega
  · trivial

theorem pollsWithin_dataPhase (i : Nat) (s : State) : pollsWithin s.cfg (dataPhase i s).txn.phase := by
  unfold dataPhase
  split
  · show i + 1 ≤ 512
    omega
  · trivial

theorem pollsWithin_pollToken (polls : Nat) (last : Byte) (s : State) :
    pollsWithin s.cfg (pollToken polls last s).txn.phase := by
  unfold pollToken
  split
  · split
    · exact pollsWithin_dataPhase 0 _
    · trivial
  · show polls + 1 ≤ s.cfg.tokenPollMax
    omega

theorem pollsWithin_afterR1 (r : Byte) (s : State) : pollsWithin s.cfg (afterR1 r s).txn.phase := by
  unfold afterR1
  dsimp only
  split
  case h_1 => trivial
  case h_2 | h_3 =>
    split
    · trivial
    · show 1 ≤ 4
      omega
  case h_4 =>
    split
    · trivial
    · exact pollsWithin_pollToken 0 0xFF _

theorem pollsWithin_pollR1 (polls : Nat) (last : Byte) (s : State) :
    pollsWithin s.cfg (pollR1 polls last s).txn.phase := by
  unfold pollR1
  split
  · exact pollsWithin_afterR1 last s
  · show polls + 1 ≤ s.cfg.r1PollMax
    omega

/-- Every step of SendCommand leaves its loops within their budgets, from whatever position. -/
theorem pollsWithin_transactionStep (s : State) : pollsWithin s.cfg (transactionStep s).txn.phase := by
  cases h : s.txn.phase with
  | frame i =>
    rw [transactionStep_frame s i h]
    show pollsWithin s.cfg (if i < 5 then .frame (i + 1) else .r1Poll 0 0xFF)
    split
    · trivial
    · exact Nat.zero_le _
  | r1Poll k r => rw [transactionStep_r1Poll s k r h]; exact pollsWithin_pollR1 k r s
  | trailing got => rw [transactionStep_trailing s got h]; exact pollsWithin_readTrailing got s
  | tokenPoll p b => rw [transactionStep_tokenPoll s p b h]; exact pollsWithin_pollToken p b s
  | data i => rw [transactionStep_data s i h]; exact pollsWithin_dataPhase i s
  | start => rw [transactionStep_start s h]; trivial
  | selected => rw [transactionStep_selected s h]; trivial
  | crc1 => rw [transactionStep_crc1 s h]; trivial
  | crc2 => rw [transactionStep_crc2 s h]; trivial
  | settled => rw [transactionStep_settled s h]; trivial
  | deselected => rw [transactionStep_deselected s h]; trivial
  | complete => rw [transactionStep_complete s h, h]; trivial

/-- A transaction's step leaves the operation's point, so the point's own budget is kept with it. -/
theorem budgetInv_transactionStep (s : State) (h : BudgetInv s) : BudgetInv (transactionStep s) := by
  have hbus := busOnly_transactionStep s
  have hcfg : (transactionStep s).cfg = s.cfg := by rw [hbus]
  have hpoint : (transactionStep s).point = s.point := by rw [hbus]; rfl
  rw [BudgetInv, hcfg, hpoint, withinBudget_iff]
  exact ⟨((withinBudget_iff _ _ _).mp h).1, pollsWithin_transactionStep s⟩

/-! ### The three ways an operation goes on outside a transaction -/

theorem budgetInv_finish (c : Byte) (s : State) (h : s.txn.phase = .complete) : BudgetInv (finish c s) := by
  show pollsWithin s.cfg s.txn.phase
  rw [h]; trivial

theorem budgetInv_sendCommand (p : Point) (f : BitVec 48) (k : RespKind) (s : State) (h : attemptsWithin s.cfg p) :
    BudgetInv (sendCommand p f k s) :=
  (withinBudget_iff _ _ _).mpr ⟨h, trivial⟩

theorem budgetInv_blockRead (p : Point) (sector : Word) (s : State) (h : attemptsWithin s.cfg p) :
    BudgetInv (blockRead p sector s) :=
  budgetInv_sendCommand p _ _ s h

theorem budgetInv_atPoint (p : Point) (s : State) (hph : s.txn.phase = .complete) (h : attemptsWithin s.cfg p) :
    BudgetInv (s.atPoint p) :=
  (withinBudget_iff _ _ _).mpr ⟨h, by rw [show (s.atPoint p).txn.phase = .complete from hph]; trivial⟩

/-! ### The operations at their points -/

/-- An unsuccessful iteration of AppInit either was the last or leaves one (R184). -/
theorem budgetInv_initRetry (a n : Nat) (s : State) (hph : s.txn.phase = .complete) (ha : a ≤ s.cfg.idleAttempts) :
    BudgetInv (initRetry a n s) := by
  unfold initRetry
  split
  · exact budgetInv_finish _ _ hph
  · rename_i hn
    exact budgetInv_atPoint _ _ hph ⟨ha, not_le.mp hn⟩

theorem budgetInv_resumeInit (p : Point) (s : State) (hcfg : s.cfg.admitted = true) (hph : s.txn.phase = .complete)
    (h : attemptsWithin s.cfg p) : BudgetInv (resumeInit p s) := by
  obtain ⟨-, hidle, happ, -⟩ := (Config.admitted_iff _).mp hcfg
  unfold resumeInit
  split
  · exact budgetInv_atPoint _ _ hph trivial
  · exact budgetInv_sendCommand _ _ _ _ hidle
  · exact budgetInv_atPoint _ _ hph trivial
  · split
    · exact budgetInv_sendCommand _ _ _ _ h
    · split
      · exact budgetInv_finish _ _ hph
      · rename_i ha
        exact budgetInv_sendCommand _ _ _ _ (not_le.mp ha)
  · split
    · exact budgetInv_finish _ _ hph
    · split
      · exact budgetInv_sendCommand _ _ _ _ ⟨h, happ⟩
      · exact budgetInv_finish _ _ hph
  · split
    · exact budgetInv_initRetry _ _ s hph h.1
    · exact budgetInv_sendCommand _ _ _ _ h
  · split
    · exact budgetInv_atPoint _ _ hph h
    · exact budgetInv_initRetry _ _ s hph h.1
  · exact budgetInv_sendCommand _ _ _ _ h
  · exact budgetInv_sendCommand _ _ _ _ h
  · exact budgetInv_finish _ _ hph
  · exact budgetInv_atPoint _ _ hph trivial

theorem budgetInv_resumeSendcmd (idx : BitVec 6) (rtype : BitVec 2) (chk : Byte) (p : Point) (s : State)
    (hph : s.txn.phase = .complete) : BudgetInv (resumeSendcmd idx rtype chk p s) := by
  unfold resumeSendcmd
  split
  · exact budgetInv_finish _ _ hph
  · split
    · exact budgetInv_sendCommand _ _ _ _ trivial
    · exact budgetInv_finish _ _ hph

theorem budgetInv_resumeRdblk (p : Point) (s : State) (hph : s.txn.phase = .complete) :
    BudgetInv (resumeRdblk p s) := by
  unfold resumeRdblk
  split
  · split <;> exact budgetInv_finish _ _ hph
  · split
    · exact budgetInv_blockRead _ _ _ trivial
    · exact budgetInv_finish _ _ hph

theorem budgetInv_resumeMount (p : Point) (s : State) (hph : s.txn.phase = .complete) :
    BudgetInv (resumeMount p s) := by
  unfold resumeMount
  split
  · split
    · exact budgetInv_finish _ _ hph
    · split
      · exact budgetInv_finish _ _ hph
      · split
        · exact budgetInv_blockRead _ _ _ trivial
        · exact budgetInv_finish _ _ hph
  · split
    · exact budgetInv_finish _ _ hph
    · split <;> exact budgetInv_finish _ _ hph
  · split
    · exact budgetInv_blockRead _ _ _ trivial
    · exact budgetInv_finish _ _ hph

/-- The scan reads a directory sector only while one is left in its extent (R241). -/
theorem budgetInv_readDirectory (k : Nat) (target : List Byte) (s0 : Word) (s : State)
    (hph : s.txn.phase = .complete) : BudgetInv (readDirectory k target s0 s) := by
  unfold readDirectory
  split
  · rename_i hk; exact budgetInv_blockRead _ _ _ hk
  · exact budgetInv_finish _ _ hph

theorem budgetInv_startRdfile (s : State) (hph : s.txn.phase = .complete) : BudgetInv (startRdfile s) := by
  unfold startRdfile
  split
  · exact budgetInv_finish _ _ hph
  · split
    · exact budgetInv_readDirectory _ _ _ _ hph
    · exact budgetInv_finish _ _ hph

theorem budgetInv_resumeRdfile (p : Point) (s : State) (hph : s.txn.phase = .complete) :
    BudgetInv (resumeRdfile p s) := by
  unfold resumeRdfile
  split
  · split
    · exact budgetInv_finish _ _ hph
    · split
      · exact budgetInv_finish _ _ hph
      · exact budgetInv_blockRead _ _ _ trivial
      · exact budgetInv_readDirectory _ _ _ _ hph
  · split <;> exact budgetInv_finish _ _ hph
  · exact budgetInv_startRdfile s hph

theorem budgetInv_resumeNorm (p : Point) (s : State) (hph : s.txn.phase = .complete) :
    BudgetInv (resumeNorm p s) := by
  unfold resumeNorm
  split <;> exact budgetInv_finish _ _ hph

/-- Outside its transactions every operation keeps its loops within their budgets. -/
theorem budgetInv_resumeOf (i : Instr) (s : State) (hcfg : s.cfg.admitted = true) (hph : s.txn.phase = .complete)
    (h : BudgetInv s) : BudgetInv (resumeOf i s.point s) := by
  cases i with
  | init => exact budgetInv_resumeInit s.point s hcfg hph ((withinBudget_iff _ _ _).mp h).1
  | sendcmd idx rtype chk => exact budgetInv_resumeSendcmd idx rtype chk s.point s hph
  | rdblk => exact budgetInv_resumeRdblk s.point s hph
  | mount => exact budgetInv_resumeMount s.point s hph
  | norm => exact budgetInv_resumeNorm s.point s hph
  | rdfile => exact budgetInv_resumeRdfile s.point s hph
  | c2s | decr1 | decr3 | decr7 => exact budgetInv_finish codeOk _ hph
  | cmd0 | cmd8 | cmd55 | acmd41 | cmd58 | cmd17 _ | sdframe _ _ _ => exact h

/-! ### The whole -/

theorem budgetInv_engineStep (s t : State) (hcfg : s.cfg.admitted = true) (h : BudgetInv s)
    (hstep : engineStep s = .next t) : BudgetInv t := by
  obtain ⟨-, rfl⟩ | ⟨-, -, rfl⟩ | ⟨-, hph, ⟨i, -, rfl⟩ | ⟨e, -, rfl⟩⟩ := engineStep_cases s t hstep
  · exact h
  · exact budgetInv_transactionStep s h
  · exact budgetInv_resumeOf i s hcfg hph h
  · exact budgetInv_finish _ s hph

/-- A host access that is no acceptance and no reset leaves the loops where they are. -/
theorem HostOnly.budgetInv {s t : State} (hst : HostOnly s t) (h : BudgetInv s) : BudgetInv t := by
  rw [hst]; exact h

/-- Settles O54: each loop's guard bounds the turn after it; acceptance and reset start every loop afresh. -/
theorem budgetsKept : Obligations.BudgetsKept := by
  unfold Obligations.BudgetsKept
  intro s t h hstep
  obtain ⟨hcfg, ⟨m, hengine⟩ | ⟨m, rfl⟩ | ⟨m, w, -, rfl⟩ | hhost⟩ := step_cases s t hstep
  · exact budgetInv_engineStep { s with moves := m } t hcfg h hengine
  · trivial
  · trivial
  · exact hhost.budgetInv h

end Sys2Proof.Machine
end

section
/-! ## Dispatch and admission (R13, R20, R45) -/

namespace Sys2Proof.Machine

theorem decodeHost_of_decodeTableWord (w : Nat) (i : Instr) (h : decodeTableWord 32 w = some i) :
    decodeHost (BitVec.ofNat 32 w) = .ok i := by
  cases hdec : decodeHost (BitVec.ofNat 32 w) with
  | ok j => simpa [decodeTableWord, hdec, Except.toOption] using h
  | error e => simp [decodeTableWord, hdec, Except.toOption] at h

/-- The step after a command word is placed is the engine's first step after that word's acceptance. -/
theorem step_withFetchWord (s : State) (w : Nat) (ha : s.cfg.admitted = true) :
    step (s.withFetchWord 32 w) = engineStep (accept (BitVec.ofNat 32 w) s) :=
  step_of_moves_yield (s.withFetchWord 32 w) s.moves ha rfl

/-- Settles O9: with the engine to move, step is the engine's step, and that is exec of what fetch finds. -/
theorem stepRunsDecodedInstruction : Obligations.StepRunsDecodedInstruction := by
  unfold Obligations.StepRunsDecodedInstruction
  refine ⟨fun s op p i ha hseq hph hdec => ⟨fun hm => ?_, fun rest hm => ?_⟩,
    fun s op p i ha hseq hph hdec => ⟨fun hm => ?_, fun rest hm => ?_⟩,
    fun s ha hm hseq => ?_, fun s w i ha hw => ?_⟩
  · rw [step_of_moves_nil s ha hm, engineStep_operation s op p i hseq hph hdec]
  · rw [step_of_moves_yield s rest ha hm]
    exact engineStep_operation { s with moves := rest } op p i hseq hph hdec
  · rw [step_of_moves_nil s ha hm, engineStep_frame s op p i hseq hph hdec]
  · rw [step_of_moves_yield s rest ha hm]
    exact engineStep_frame { s with moves := rest } op p i hseq hph hdec
  · rw [step_of_moves_nil s ha hm, engineStep_idle s hseq]
  · rw [step_withFetchWord s w ha]
    exact engineStep_operation _ _ .start i rfl rfl (decodeHost_of_decodeTableWord w i hw)

/-- Settles O12: an admitted configuration meets each constraint of R13, so one that misses any is refused. -/
theorem configurationRefused : Obligations.ConfigurationRefused := by
  unfold Obligations.ConfigurationRefused
  intro s hbad
  refine step_of_not_admitted s (Bool.eq_false_iff.mpr fun ha => ?_)
  obtain ⟨hr1, hidle, happ, htoken, hroot, -, hstop, hcheck⟩ := (Config.admitted_iff _).mp ha
  have hcount := (oneBit_iff_countP _).mp hstop
  rcases hbad with h | h | h | h | h | h | h
  · omega
  · omega
  · omega
  · omega
  · omega
  · exact h hcount
  · exact h hcheck

end Sys2Proof.Machine
end

/-! # Proofs: the state, its invariants and the host side (10_state.md R31-R50) -/

section
/-! ## What an operation does outside its transactions (R45)

Said once for all ten host operations: a write of the operation's own result registers, then one bus primitive or the
completion. The frames, the owners and the invariants below are read off these cases. -/

namespace Sys2Proof.Machine

/-! ### The four parts of the block's state -/

/-- What the host writes or has seen, and what acceptance latched for the operation (R34, R38, R39, R46). -/
def State.hostPart (s : State) :=
  (s.arg, s.nameLen, s.name0, s.name1, s.name2, s.name3, s.latch, s.overrun, s.lastOpc, s.cfg, s.moves, s.reads)

/-- The result registers and the flags that operations leave behind (R35, R40-R42, R44). -/
def State.resultPart (s : State) :=
  (s.result, s.norm0, s.norm1, s.norm2, s.geo, s.fclus, s.fsize, s.cardReady, s.mounted)

/-- The handshake and the sequencer step (R33, R45). -/
def State.handshakePart (s : State) := (s.busy, s.done, s.code, s.seq)

/-- What only a transaction writes (R36, R37, R47). -/
def State.responsePart (s : State) := (s.r1Last, s.tokenLast, s.resp, s.sb)

/-! ### The cases -/

/-- MOUNT's gate is behind: the card is ready now, or the operation already waits inside MOUNT (R210). -/
def PastMountGate (s : State) : Prop := s.cardReady = true ∨ inMount s.point = true

/-- The result registers and flags each operation writes of its own, all that it writes at once. -/
inductive ResultWrite (s : State) : Instr → State → Prop where
  | nothing (i : Instr) : ResultWrite s i s
  | result {i : Instr} (hi : i ∈ [.init, .c2s, .decr1, .decr3, .decr7]) (r : Word) :
    ResultWrite s i { s with result := r }
  | initStart : ResultWrite s .init { s with cardReady := false, mounted := false }
  | initDone (r : Word) : ResultWrite s .init { s with cardReady := true, result := r }
  | mountStart : ResultWrite s .mount { s with mounted := false }
  | mountDone (hgate : PastMountGate s) (g : Geometry) : ResultWrite s .mount { s with geo := g, mounted := true }
  | norm {i : Instr} (hi : i ∈ [.norm, .rdfile]) (n : List Byte) : ResultWrite s i (s.withNorm n)
  | file (c z : Word) : ResultWrite s .rdfile { s with fclus := c, fsize := z }

/-- The one event of an operation's step outside its transactions, after it has written its results in `u`: the
completion, the first primitive of a transaction, or one of INIT's primitives outside its transactions. -/
inductive ResumeEvent (s u : State) : State → Prop where
  | finish {c : Byte} (hc : c.toNat ≤ 9) : ResumeEvent s u (finish c u)
  | call (p : Point) (f : BitVec 48) (k : RespKind)
      (hgate : inMount p = true → u.cardReady = s.cardReady ∧ PastMountGate s) : ResumeEvent s u (sendCommand p f k u)
  | fill (q : InitPoint) : ResumeEvent s u ((fill u).atPoint (.init q))
  | delay (ms : Nat) (q : InitPoint) : ResumeEvent s u ((delay ms u).atPoint (.init q))
  | deselect (q : InitPoint) : ResumeEvent s u ((driveCs .desel u).atPoint (.init q))

/-- A step of operation `i` from `s` to `t` outside its transactions. -/
def ResumeStep (i : Instr) (s t : State) : Prop := ∃ u, ResultWrite s i u ∧ ResumeEvent s u t

theorem resumeStep_finish (i : Instr) (s : State) {c : Byte} (hc : c.toNat ≤ 9) :
    ResumeStep i s (finish c s) := ⟨s, .nothing i, .finish hc⟩

/-- A call of SendCommand at a point outside MOUNT, with no result written. -/
theorem resumeStep_call (i : Instr) (s : State) (p : Point) (f : BitVec 48) (k : RespKind)
    (hp : inMount p = false) : ResumeStep i s (sendCommand p f k s) :=
  ⟨s, .nothing i, .call p f k fun h => by rw [hp] at h; cases h⟩

theorem resumeStep_initFail (failed : Byte) (a n : Nat) (s : State) :
    ResumeStep .init s (initFail failed a n s) := ⟨_, .result (by decide) _, .finish (by decide)⟩

theorem resumeStep_initRetry (a n : Nat) (s : State) : ResumeStep .init s (initRetry a n s) := by
  unfold initRetry
  split
  · exact resumeStep_initFail 3 a n s
  · exact ⟨s, .nothing _, .delay _ _⟩

theorem resumeStep_resumeInit (p : Point) (s : State) : ResumeStep .init s (resumeInit p s) := by
  unfold resumeInit
  split
  · exact ⟨s, .nothing _, .delay _ _⟩
  · exact resumeStep_call _ s _ _ _ rfl
  · exact ⟨s, .nothing _, .fill _⟩
  · split
    · exact resumeStep_call _ s _ _ _ rfl
    · split
      · exact resumeStep_initFail _ _ _ s
      · exact resumeStep_call _ s _ _ _ rfl
  · split
    · exact resumeStep_initFail _ _ _ s
    · split
      · exact resumeStep_call _ s _ _ _ rfl
      · exact resumeStep_initFail _ _ _ s
  · split
    · exact resumeStep_initRetry _ _ s
    · exact resumeStep_call _ s _ _ _ rfl
  · split
    · exact ⟨s, .nothing _, .delay _ _⟩
    · exact resumeStep_initRetry _ _ s
  · exact resumeStep_call _ s _ _ _ rfl
  · exact resumeStep_call _ s _ _ _ rfl
  · exact ⟨_, .initDone _, .finish (by decide)⟩
  · exact ⟨_, .initStart, .deselect _⟩

theorem resumeStep_resumeSendcmd (idx : BitVec 6) (rtype : BitVec 2) (chk : Byte) (p : Point) (s : State) :
    ResumeStep (.sendcmd idx rtype chk) s (resumeSendcmd idx rtype chk p s) := by
  unfold resumeSendcmd
  split
  · exact resumeStep_finish _ s (by decide)
  · split
    · exact resumeStep_call _ s _ _ _ rfl
    · exact resumeStep_finish _ s (by decide)

theorem resumeStep_resumeRdblk (p : Point) (s : State) : ResumeStep .rdblk s (resumeRdblk p s) := by
  unfold resumeRdblk
  split
  · split <;> exact resumeStep_finish _ s (by decide)
  · split
    · exact resumeStep_call _ s _ _ _ rfl
    · exact resumeStep_finish _ s (by decide)

theorem resumeStep_resumeMount (s : State) : ResumeStep .mount s (resumeMount s.point s) := by
  unfold resumeMount
  split
  case h_1 hp =>
    have hgate : PastMountGate s := .inr (by rw [hp]; rfl)
    split
    · exact resumeStep_finish _ s (by decide)
    · split
      · exact ⟨_, .mountDone hgate _, .finish (by decide)⟩
      · split
        · exact ⟨s, .nothing _, .call _ _ _ fun _ => ⟨rfl, hgate⟩⟩
        · exact resumeStep_finish _ s (by decide)
  case h_2 hp =>
    have hgate : PastMountGate s := .inr (by rw [hp]; rfl)
    split
    · exact resumeStep_finish _ s (by decide)
    · split
      · exact ⟨_, .mountDone hgate _, .finish (by decide)⟩
      · exact resumeStep_finish _ s (by decide)
  case h_3 =>
    split
    · rename_i hready
      exact ⟨_, .mountStart, .call _ _ _ fun _ => ⟨rfl, .inl hready⟩⟩
    · exact resumeStep_finish _ s (by decide)

/-- RDFILE goes on with the next directory sector or ends, whatever it has written to NORM. -/
theorem resumeEvent_readDirectory (k : Nat) (target : List Byte) (s0 : Word) (s u : State) :
    ResumeEvent s u (readDirectory k target s0 u) := by
  unfold readDirectory
  split
  · exact .call _ _ _ nofun
  · exact .finish (by decide)

theorem resumeStep_startRdfile (s : State) : ResumeStep .rdfile s (startRdfile s) := by
  unfold startRdfile
  split
  · exact resumeStep_finish _ s (by decide)
  · split
    · exact ⟨_, .norm (by decide) _, resumeEvent_readDirectory _ _ _ _ _⟩
    · exact ⟨_, .norm (by decide) _, .finish (by decide)⟩

theorem resumeStep_resumeRdfile (p : Point) (s : State) : ResumeStep .rdfile s (resumeRdfile p s) := by
  unfold resumeRdfile
  split
  · split
    · exact resumeStep_finish _ s (by decide)
    · split
      · exact resumeStep_finish _ s (by decide)
      · exact resumeStep_call _ s _ _ _ rfl
      · exact ⟨s, .nothing _, resumeEvent_readDirectory _ _ _ _ _⟩
  · split
    · exact resumeStep_finish _ s (by decide)
    · exact ⟨_, .file _ _, .finish (by decide)⟩
  · exact resumeStep_startRdfile s

/-- C2S, NORM and the decoders end at once, at whatever point (R221, R231, R260). -/
theorem resumeOf_eq_finish (i : Instr) (hi : i ∈ [.c2s, .norm, .decr1, .decr3, .decr7]) (p : Point) (s : State) :
    ∃ u c, ResultWrite s i u ∧ c.toNat ≤ 9 ∧ resumeOf i p s = finish c u := by
  have hok : codeOk.toNat ≤ 9 := by decide
  simp only [List.mem_cons, List.not_mem_nil, or_false] at hi
  rcases hi with rfl | rfl | rfl | rfl | rfl
  case inr.inl =>
    show ∃ u c, ResultWrite s .norm u ∧ c.toNat ≤ 9 ∧ resumeNorm p s = finish c u
    unfold resumeNorm
    split
    · exact ⟨_, _, .norm (by decide) _, hok, rfl⟩
    · exact ⟨s, _, .nothing _, by decide, rfl⟩
  all_goals exact ⟨_, _, .result (by decide) _, hok, rfl⟩

theorem resumeStep_of_eq_finish {i : Instr} {s : State} (t : State)
    (h : ∃ u c, ResultWrite s i u ∧ c.toNat ≤ 9 ∧ t = finish c u) : ResumeStep i s t := by
  obtain ⟨u, c, hu, hc, rfl⟩ := h
  exact ⟨u, hu, .finish hc⟩

/-- Every step of a host operation outside its transactions is one of the cases above. -/
theorem resumeStep_resumeOf (i : Instr) (s : State) (hi : isHostOp i = true) :
    ResumeStep i s (resumeOf i s.point s) := by
  cases i with
  | init => exact resumeStep_resumeInit s.point s
  | sendcmd idx rtype chk => exact resumeStep_resumeSendcmd idx rtype chk s.point s
  | rdblk => exact resumeStep_resumeRdblk s.point s
  | mount => exact resumeStep_resumeMount s
  | rdfile => exact resumeStep_resumeRdfile s.point s
  | c2s | norm | decr1 | decr3 | decr7 =>
    exact resumeStep_of_eq_finish _ (resumeOf_eq_finish _ (by decide) s.point s)
  | cmd0 | cmd8 | cmd55 | acmd41 | cmd58 | cmd17 _ | sdframe _ _ _ => cases hi

/-! ### What the cases leave unchanged -/

theorem ResultWrite.hostPart {i : Instr} {s u : State} (h : ResultWrite s i u) : u.hostPart = s.hostPart := by
  cases h <;> rfl

theorem ResultWrite.handshakePart {i : Instr} {s u : State} (h : ResultWrite s i u) :
    u.handshakePart = s.handshakePart := by
  cases h <;> rfl

theorem ResultWrite.seq {i : Instr} {s u : State} (h : ResultWrite s i u) : u.seq = s.seq := by
  cases h <;> rfl

/-- A result write touches neither the bus nor what a transaction writes. -/
theorem ResultWrite.responsePart {i : Instr} {s u : State} (h : ResultWrite s i u) :
    u.responsePart = s.responsePart := by
  cases h <;> rfl

theorem ResultWrite.busPart {i : Instr} {s u : State} (h : ResultWrite s i u) :
    u.cs = s.cs ∧ u.txn = s.txn ∧ u.cardIn = s.cardIn ∧ u.draws = s.draws ∧ u.history = s.history := by
  cases h <;> exact ⟨rfl, rfl, rfl, rfl, rfl⟩

theorem ResumeEvent.hostPart {s u t : State} (h : ResumeEvent s u t) : t.hostPart = u.hostPart := by
  cases h <;> rfl

theorem ResumeEvent.resultPart {s u t : State} (h : ResumeEvent s u t) : t.resultPart = u.resultPart := by
  cases h <;> rfl

theorem ResumeEvent.responsePart {s u t : State} (h : ResumeEvent s u t) : t.responsePart = u.responsePart := by
  cases h <;> rfl

theorem BusOnly.hostPart {s t : State} (h : BusOnly s t) : t.hostPart = s.hostPart := by rw [h]; rfl

theorem BusOnly.resultPart {s t : State} (h : BusOnly s t) : t.resultPart = s.resultPart := by rw [h]; rfl

theorem BusOnly.handshakePart {s t : State} (h : BusOnly s t) : t.handshakePart = s.handshakePart := by rw [h]; rfl

/-! ### One instruction -/

/-- All that executing an instruction can do: the next step of the transaction under way, the first step of a frame's
own transaction, or a host operation's step outside its transactions. -/
theorem exec_cases (i : Instr) (s : State) :
    ∃ t, exec i s = .next t ∧
      ((s.txn.phase ≠ .complete ∧ ∃ f, t = transactionStep { s with txn := { s.txn with frame := f } }) ∨
        (s.txn.phase = .complete ∧ isHostOp i = false ∧ ∃ f k, t = beginTransaction f k s) ∨
        (s.txn.phase = .complete ∧ isHostOp i = true ∧ t = resumeOf i s.point s)) := by
  by_cases hph : s.txn.phase = .complete
  · cases hi : isHostOp i with
    | true => exact ⟨_, exec_resume i s hi hph, .inr (.inr ⟨hph, rfl, rfl⟩)⟩
    | false =>
      obtain ⟨f, hf⟩ := encode_frame s.cfg i hi
      exact ⟨_, by rw [exec_frame i s f hf, frameStep, if_pos hph], .inr (.inl ⟨hph, rfl, f, _, rfl⟩)⟩
  · cases hi : isHostOp i with
    | true => exact ⟨_, by rw [exec_hostOp i s hi, operationStep, if_neg hph], .inl ⟨hph, s.txn.frame, rfl⟩⟩
    | false =>
      obtain ⟨f, hf⟩ := encode_frame s.cfg i hi
      exact ⟨_, by rw [exec_frame i s f hf, frameStep, if_neg hph], .inl ⟨hph, f, rfl⟩⟩

/-- In terms of what may change: an instruction writes what a transaction may write, or takes an operation's step
outside its transactions. -/
theorem busOnly_or_resumeStep (i : Instr) (s t : State) (h : exec i s = .next t) :
    BusOnly s t ∨ ResumeStep i s t := by
  obtain ⟨t', ht', ⟨-, f, rfl⟩ | ⟨-, -, f, k, rfl⟩ | ⟨-, hi, rfl⟩⟩ := exec_cases i s <;>
    cases ht'.symm.trans h
  · have hbus := busOnly_transactionStep { s with txn := { s.txn with frame := f } }
    exact .inl (by unfold BusOnly at hbus ⊢; rw [hbus])
  · exact .inl (busOnly_beginTransaction f k s)
  · exact .inr (resumeStep_resumeOf i s hi)

/-! ### Every step of the whole -/

/-- An invariant holds along every run when each of the five things a step can be keeps it: a host access, a reset, an
acceptance, a step of a transaction, and an operation's step outside its transactions. -/
theorem step_keeps {P : State → Prop} (hhost : ∀ s t, HostOnly s t → P s → P t) (hreset : ∀ s, P (resetBlock s))
    (haccept : ∀ w s, s.busy = false → P s → P (accept w s))
    (htxn : ∀ s, s.seq ≠ .idle → s.txn.phase ≠ .complete → P s → P (transactionStep s))
    (hop : ∀ i s t, s.seq ≠ .idle → s.txn.phase = .complete → ResumeStep i s t → P s → P t)
    (s t : State) (h : P s) (hstep : step s = .next t) : P t := by
  have htake (m : List HostMove) : P { s with moves := m } := hhost s _ rfl h
  obtain ⟨-, ⟨m, hengine⟩ | ⟨m, rfl⟩ | ⟨m, w, hbusy, rfl⟩ | haccess⟩ := step_cases s t hstep
  · obtain ⟨-, rfl⟩ | ⟨hrun, hph, rfl⟩ | ⟨hrun, hph, ⟨i, hdec, rfl⟩ | ⟨e, -, rfl⟩⟩ := engineStep_cases _ t hengine
    · exact htake m
    · exact htxn _ hrun hph (htake m)
    · exact hop i _ _ hrun hph (resumeStep_resumeOf i _ (decodeHost_isHostOp _ i hdec)) (htake m)
    · exact hop .init _ _ hrun hph (resumeStep_finish .init _ (by decide)) (htake m)
  · exact hreset _
  · exact haccept w _ hbusy (htake m)
  · exact hhost s t haccess h

end Sys2Proof.Machine
end

section
/-! ## One step of SendCommand (R161-R172)

The event, the chip-select level and the stored byte of a transaction's step, and what its next position says of the
bytes stored so far. -/

namespace Sys2Proof.Machine

/-! ### The exchange of a response read -/

/-- The sector buffer with the byte just clocked in put at `store`, if anywhere (R172). -/
def storedBuffer (store : Option Nat) (s : State) : Memory :=
  match store with
  | some a => s.sb.write a s.nextIn
  | none => s.sb

/-- `t` is `s` after one exchange of a response read: a filler is sent, the card stays selected, and the byte clocked
in goes to SB at `store` or nowhere. -/
structure ReadExchange (store : Option Nat) (s t : State) : Prop where
  history : t.history = s.history ++ [.xchgEv 0xFF s.nextIn]
  cs : t.cs = s.cs
  selected : csOf t.txn.phase = .sel
  sb : t.sb = storedBuffer store s

theorem storeIndex_tokenPoll (polls : Nat) (last : Byte) (s : State) :
    storeIndex (s.atPhase (.tokenPoll polls last)) =
      if (last ≠ 0xFF ∨ s.cfg.tokenPollMax ≤ polls) ∧ last = dataStart then some 0 else none := rfl

theorem storeIndex_data (i : Nat) (s : State) :
    storeIndex (s.atPhase (.data i)) = if i < 512 then some i else none := rfl

theorem readExchange_settle (s : State) : ReadExchange none s (settle s) := ⟨rfl, rfl, rfl, rfl⟩

theorem readExchange_endData (tok : Byte) (s : State) : ReadExchange none s (endData tok s) := ⟨rfl, rfl, rfl, rfl⟩

theorem readExchange_readTrailing (got : List Byte) (s : State) : ReadExchange none s (readTrailing got s) := by
  unfold readTrailing; split <;> exact ⟨rfl, rfl, rfl, rfl⟩

theorem readExchange_dataPhase (i : Nat) (s : State) :
    ReadExchange (storeIndex (s.atPhase (.data i))) s (dataPhase i s) := by
  rw [storeIndex_data]
  unfold dataPhase
  split <;> exact ⟨rfl, rfl, rfl, rfl⟩

theorem readExchange_pollToken (polls : Nat) (last : Byte) (s : State) :
    ReadExchange (storeIndex (s.atPhase (.tokenPoll polls last))) s (pollToken polls last s) := by
  rw [storeIndex_tokenPoll]
  unfold pollToken
  by_cases hend : last ≠ 0xFF ∨ s.cfg.tokenPollMax ≤ polls
  · by_cases htok : last = dataStart
    · rw [if_pos hend, if_pos htok, if_pos ⟨hend, htok⟩]
      exact ⟨rfl, rfl, rfl, rfl⟩
    · rw [if_pos hend, if_neg htok, if_neg fun h => htok h.2]
      exact ⟨rfl, rfl, rfl, rfl⟩
  · rw [if_neg hend, if_neg fun h => hend h.1]
    exact ⟨rfl, rfl, rfl, rfl⟩

/-- The first token poll stores nothing: no token has come yet. -/
theorem storeIndex_firstPoll (s : State) : storeIndex (s.atPhase (.tokenPoll 0 0xFF)) = none :=
  if_neg fun h => absurd h.2 (by decide)

theorem readExchange_firstPoll (s : State) : ReadExchange none s (pollToken 0 0xFF s) := by
  rw [← storeIndex_firstPoll s]
  exact readExchange_pollToken 0 0xFF s

theorem readExchange_afterR1 (r : Byte) (s : State) : ReadExchange none s (afterR1 r s) := by
  unfold afterR1
  dsimp only
  split
  case h_1 => exact ⟨rfl, rfl, rfl, rfl⟩
  case h_2 | h_3 => split <;> exact ⟨rfl, rfl, rfl, rfl⟩
  case h_4 =>
    split
    · exact ⟨rfl, rfl, rfl, rfl⟩
    · obtain ⟨hhistory, hcs, hsel, hsb⟩ :=
        readExchange_firstPoll { s with r1Last := r, txn := { s.txn with r1 := r, word := none, tok := 0xFF } }
      exact ⟨hhistory, hcs, hsel, hsb⟩

theorem readExchange_pollR1 (polls : Nat) (last : Byte) (s : State) :
    ReadExchange none s (pollR1 polls last s) := by
  unfold pollR1
  split
  · exact readExchange_afterR1 last s
  · exact ⟨rfl, rfl, rfl, rfl⟩

/-! ### The step at any position -/

/-- What every step of a transaction under way does: it appends one bus primitive, keeps chip-select where the position
says (R165), and stores the byte that `storeIndex` names (R172). -/
structure PrimitiveStep (s t : State) : Prop where
  event : ∃ e, isPrimitive e = true ∧ t.history = s.history ++ [e]
  cs : s.cs = csOf s.txn.phase → t.cs = csOf t.txn.phase
  sb : t.sb = storedBuffer (storeIndex s) s

theorem ReadExchange.primitiveStep {store : Option Nat} {s t : State} (h : ReadExchange store s t)
    (hsel : csOf s.txn.phase = .sel) (hstore : storeIndex s = store) : PrimitiveStep s t where
  event := ⟨_, rfl, h.history⟩
  cs hcs := by rw [h.cs, h.selected, hcs, hsel]
  sb := by rw [hstore]; exact h.sb

theorem primitiveStep_transactionStep (s : State) (hph : s.txn.phase ≠ .complete) :
    PrimitiveStep s (transactionStep s) := by
  cases h : s.txn.phase with
  | start =>
    rw [transactionStep_start s h]
    exact ⟨⟨_, rfl, rfl⟩, fun _ => rfl, by simp only [storeIndex, h]; rfl⟩
  | selected =>
    rw [transactionStep_selected s h]
    exact ⟨⟨_, rfl, rfl⟩, fun hcs => by rw [h] at hcs; exact hcs, by simp only [storeIndex, h]; rfl⟩
  | frame i =>
    rw [transactionStep_frame s i h]
    refine ⟨⟨_, rfl, rfl⟩, fun hcs => ?_, by simp only [storeIndex, h]; rfl⟩
    rw [h] at hcs
    show s.cs = csOf (if i < 5 then .frame (i + 1) else .r1Poll 0 0xFF)
    split <;> exact hcs
  | r1Poll k r =>
    rw [transactionStep_r1Poll s k r h]
    exact (readExchange_pollR1 k r s).primitiveStep (by rw [h]; rfl) (by simp only [storeIndex, h])
  | trailing got =>
    rw [transactionStep_trailing s got h]
    exact (readExchange_readTrailing got s).primitiveStep (by rw [h]; rfl) (by simp only [storeIndex, h])
  | tokenPoll p b =>
    rw [transactionStep_tokenPoll s p b h]
    exact (readExchange_pollToken p b s).primitiveStep (by rw [h]; rfl) (by rw [← h]; rfl)
  | data i =>
    rw [transactionStep_data s i h]
    exact (readExchange_dataPhase i s).primitiveStep (by rw [h]; rfl) (by rw [← h]; rfl)
  | crc1 =>
    rw [transactionStep_crc1 s h]
    exact ⟨⟨_, rfl, rfl⟩, fun hcs => by rw [h] at hcs; exact hcs, by simp only [storeIndex, h]; rfl⟩
  | crc2 =>
    rw [transactionStep_crc2 s h]
    exact (readExchange_endData dataStart s).primitiveStep (by rw [h]; rfl) (by simp only [storeIndex, h])
  | settled =>
    rw [transactionStep_settled s h]
    exact ⟨⟨_, rfl, rfl⟩, fun _ => rfl, by simp only [storeIndex, h]; rfl⟩
  | deselected =>
    rw [transactionStep_deselected s h]
    exact ⟨⟨_, rfl, rfl⟩, fun hcs => by rw [h] at hcs; exact hcs, by simp only [storeIndex, h]; rfl⟩
  | complete => exact absurd h hph

/-- The byte a step stores is inside the buffer and is the next one after those written (R172). -/
theorem storeIndex_bounds {s : State} {a : Nat} (h : storeIndex s = some a) : a < 512 ∧ a ≤ storedCount s.txn := by
  unfold storeIndex at h
  split at h
  · split at h
    · cases h; exact ⟨by decide, Nat.zero_le _⟩
    · cases h
  · rename_i i hph
    split at h
    · cases h
      exact ⟨‹_›, by simp only [storedCount, hph, le_refl]⟩
    · cases h
  · cases h

theorem storeIndex_of_complete {s : State} (h : s.txn.phase = .complete) : storeIndex s = none := by
  simp only [storeIndex, h]

/-! ### The bytes the next position says are written -/

/-- The record `t` claims at most `n` written bytes, and no data-start token before a trailing word. -/
def ClaimsAtMost (n : Nat) (t : Txn) : Prop :=
  storedCount t ≤ n ∧ ∀ got, t.phase = .trailing got → t.tok ≠ dataStart

/-- A record whose position claims nothing claims nothing. -/
theorem claimsAtMost_of_eq_zero {n : Nat} {t : Txn} (h : storedCount t = 0) (hph : ∀ got, t.phase ≠ .trailing got) :
    ClaimsAtMost n t := ⟨by omega, fun got hgot => absurd hgot (hph got)⟩

/-- After the response read the whole sector is claimed if the token was the data-start token. -/
theorem claimsAtMost_settle {n : Nat} {s : State} (h : s.txn.tok = dataStart → 512 ≤ n) :
    ClaimsAtMost n (settle s).txn := by
  refine ⟨?_, nofun⟩
  show (if s.txn.tok = dataStart then 512 else 0) ≤ n
  split
  · exact h ‹_›
  · exact Nat.zero_le n

theorem claimsAtMost_readTrailing {n : Nat} (got : List Byte) {s : State} (h : s.txn.tok ≠ dataStart) :
    ClaimsAtMost n (readTrailing got s).txn := by
  unfold readTrailing
  split
  · exact ⟨Nat.zero_le n, fun _ _ => h⟩
  · exact claimsAtMost_settle fun htok => absurd htok h

theorem claimsAtMost_dataPhase (i : Nat) (s : State) :
    ClaimsAtMost ((storeIndex (s.atPhase (.data i))).elim i (· + 1)) (dataPhase i s).txn := by
  rw [storeIndex_data]
  unfold dataPhase
  split
  · exact ⟨le_refl (i + 1), nofun⟩
  · exact ⟨not_lt.mp ‹_›, nofun⟩

theorem claimsAtMost_pollToken (polls : Nat) (last : Byte) (s : State) :
    ClaimsAtMost ((storeIndex (s.atPhase (.tokenPoll polls last))).elim 0 (· + 1)) (pollToken polls last s).txn := by
  rw [storeIndex_tokenPoll]
  unfold pollToken
  by_cases hend : last ≠ 0xFF ∨ s.cfg.tokenPollMax ≤ polls
  · by_cases htok : last = dataStart
    · rw [if_pos hend, if_pos htok, if_pos ⟨hend, htok⟩]
      exact claimsAtMost_dataPhase 0 _
    · rw [if_pos hend, if_neg htok, if_neg fun h => htok h.2]
      exact claimsAtMost_settle fun h => absurd h htok
  · rw [if_neg hend, if_neg fun h => hend h.1]
    exact claimsAtMost_of_eq_zero rfl nofun

theorem claimsAtMost_afterR1 (r : Byte) (s : State) : ClaimsAtMost 0 (afterR1 r s).txn := by
  have hnone : (0xFF : Byte) ≠ dataStart := by decide
  unfold afterR1
  dsimp only
  split
  case h_1 => exact claimsAtMost_settle fun h => absurd h hnone
  case h_2 | h_3 =>
    split
    · exact claimsAtMost_settle fun h => absurd h hnone
    · exact ⟨le_refl 0, fun _ _ => hnone⟩
  case h_4 =>
    split
    · exact claimsAtMost_settle fun h => absurd h hnone
    · have h := claimsAtMost_pollToken 0 0xFF
        { s with r1Last := r, txn := { s.txn with r1 := r, word := none, tok := 0xFF } }
      rwa [storeIndex_firstPoll] at h

theorem claimsAtMost_pollR1 (polls : Nat) (last : Byte) (s : State) : ClaimsAtMost 0 (pollR1 polls last s).txn := by
  unfold pollR1
  split
  · exact claimsAtMost_afterR1 last s
  · exact claimsAtMost_of_eq_zero rfl nofun

/-- The next position claims the byte just stored and those before it, or no more than the position claimed. -/
theorem claimsAtMost_transactionStep (s : State)
    (htrailing : ∀ got, s.txn.phase = .trailing got → s.txn.tok ≠ dataStart) :
    ClaimsAtMost ((storeIndex s).elim (storedCount s.txn) (· + 1)) (transactionStep s).txn := by
  cases h : s.txn.phase with
  | start => rw [transactionStep_start s h]; exact claimsAtMost_of_eq_zero rfl nofun
  | selected => rw [transactionStep_selected s h]; exact claimsAtMost_of_eq_zero rfl nofun
  | frame i =>
    rw [transactionStep_frame s i h]
    by_cases hi : i < 5
    · rw [if_pos hi]; exact claimsAtMost_of_eq_zero rfl nofun
    · rw [if_neg hi]; exact claimsAtMost_of_eq_zero rfl nofun
  | r1Poll k r =>
    rw [transactionStep_r1Poll s k r h]
    simp only [storeIndex, storedCount, h]
    exact claimsAtMost_pollR1 k r s
  | trailing got =>
    rw [transactionStep_trailing s got h]
    exact claimsAtMost_readTrailing got (htrailing got h)
  | tokenPoll p b =>
    rw [transactionStep_tokenPoll s p b h]
    have hclaims := claimsAtMost_pollToken p b s
    rw [← h] at hclaims
    simp only [storedCount, h]
    exact hclaims
  | data i =>
    rw [transactionStep_data s i h]
    have hclaims := claimsAtMost_dataPhase i s
    rw [← h] at hclaims
    simp only [storedCount, h]
    exact hclaims
  | crc1 =>
    rw [transactionStep_crc1 s h]
    simp only [storeIndex, storedCount, h]
    exact ⟨le_refl 512, nofun⟩
  | crc2 =>
    rw [transactionStep_crc2 s h]
    simp only [storeIndex, storedCount, h]
    exact claimsAtMost_settle fun _ => le_refl 512
  | settled =>
    rw [transactionStep_settled s h]
    simp only [storeIndex, storedCount, h]
    exact ⟨le_refl _, nofun⟩
  | deselected =>
    rw [transactionStep_deselected s h]
    simp only [storeIndex, storedCount, h]
    exact ⟨le_refl _, nofun⟩
  | complete =>
    rw [transactionStep_complete s h]
    simp only [storeIndex, h]
    exact ⟨le_refl _, fun got hgot => absurd (h.symm.trans hgot) nofun⟩

end Sys2Proof.Machine
end

section
/-! ## The invariants of the block (R33, R40, R44, R46, R47, R50)

Each is kept by the five things a step can be (`step_keeps`). -/

namespace Sys2Proof.Machine

/-! ### The handshake and the Card Session (R33, R44, R45, R167) -/

theorem busy_of_running {s : State} (h : SessionInv s) (hrun : s.seq ≠ .idle) : s.busy = true := by
  rw [h.1]
  cases hs : s.seq with
  | idle => exact absurd hs hrun
  | run op p => rfl

theorem sessionInv_transactionStep (s : State) (hrun : s.seq ≠ .idle) (hph : s.txn.phase ≠ .complete)
    (h : SessionInv s) : SessionInv (transactionStep s) := by
  have hbusy := busy_of_running h hrun
  obtain ⟨hseq, hdone, hcs, -⟩ := h
  have hpart := (busOnly_transactionStep s).handshakePart
  simp only [State.handshakePart, Prod.mk.injEq] at hpart
  obtain ⟨hbusy', hdone', -, hseq'⟩ := hpart
  refine ⟨by rw [hbusy', hseq', hseq], by rwa [hbusy', hdone'], (primitiveStep_transactionStep s hph).cs hcs, ?_⟩
  rw [hbusy', hbusy]
  nofun

theorem ResultWrite.sessionInv {i : Instr} {s u : State} (hw : ResultWrite s i u) (h : SessionInv s) :
    SessionInv u := by
  cases hw <;> exact h

/-- The completion finds the card deselected; a call selects it for its transaction; INIT's own primitives leave it
deselected. -/
theorem ResumeEvent.sessionInv {s u t : State} (hm : ResumeEvent s u t) (hrun : u.seq ≠ .idle)
    (hph : u.txn.phase = .complete) (h : SessionInv u) : SessionInv t := by
  have hbusy := busy_of_running h hrun
  obtain ⟨-, hdone, hcs, hidle⟩ := h
  cases hm with
  | finish hc => exact ⟨rfl, nofun, hcs, fun _ => hph⟩
  | call p f k hgate => exact ⟨hbusy, hdone, rfl, fun hb => absurd (hbusy.symm.trans hb) nofun⟩
  | fill q => exact ⟨hbusy, hdone, hcs, hidle⟩
  | delay ms q => exact ⟨hbusy, hdone, hcs, hidle⟩
  | deselect q => exact ⟨hbusy, hdone, (congrArg csOf hph).symm, hidle⟩

theorem sessionInv_step (s t : State) (h : SessionInv s) (hstep : step s = .next t) : SessionInv t := by
  refine step_keeps (P := SessionInv) (fun s t hst h => ?_) (fun s => ?_) (fun w s hidle h => ?_)
    sessionInv_transactionStep (fun i s t hrun hph hop h => ?_) s t h hstep
  · rw [hst]; exact h
  · exact ⟨rfl, nofun, rfl, fun _ => rfl⟩
  · obtain ⟨-, -, hcs, hph⟩ := h
    exact ⟨rfl, fun _ => rfl, by rw [hph hidle] at hcs; exact hcs, nofun⟩
  · obtain ⟨u, hu, hm⟩ := hop
    obtain ⟨-, htxn, -⟩ := hu.busPart
    exact hm.sessionInv (by rwa [hu.seq]) (by rwa [htxn]) (hu.sessionInv h)

/-- Settles O50: every step keeps the Card Session, in which an idle block has no transaction under way. -/
theorem sessionKept : Obligations.SessionKept := by
  unfold Obligations.SessionKept
  intro s t h hstep
  have ht := sessionInv_step s t h hstep
  refine ⟨ht, fun hidle => ?_⟩
  obtain ⟨-, -, hcs, hph⟩ := ht
  rw [hcs, hph hidle]
  rfl

/-! ### Mounted implies ready (R44, R210) -/

/-- Past MOUNT's gate the card is ready. -/
theorem ReadyInv.cardReady_of_pastGate {s : State} (h : ReadyInv s) (hgate : PastMountGate s) : s.cardReady = true :=
  hgate.elim id h.2

/-- INIT's start clears both flags, and MOUNT sets its own only past the gate. -/
theorem ResultWrite.mounted_imp_ready {i : Instr} {s u : State} (hw : ResultWrite s i u) (h : ReadyInv s) :
    u.mounted = true → u.cardReady = true := by
  cases hw with
  | initStart => nofun
  | initDone r => exact fun _ => rfl
  | mountStart => nofun
  | mountDone hgate g => exact fun _ => h.cardReady_of_pastGate hgate
  | nothing | result | norm | file => exact h.1

/-- Settles O51: with the card ready at every point of MOUNT past its gate, the implication is kept by each step. -/
theorem mountedImpliesReadyKept : Obligations.MountedImpliesReadyKept := by
  unfold Obligations.MountedImpliesReadyKept
  intro s t h hstep
  refine step_keeps (P := ReadyInv) (fun s t hst h => ?_) (fun s => ?_) (fun w s _ h => ?_) (fun s _ _ h => ?_)
    (fun i s t _ _ hop h => ?_) s t h hstep
  · rw [hst]; exact h
  · exact ⟨nofun, nofun⟩
  · exact ⟨h.1, nofun⟩
  · rw [busOnly_transactionStep s]; exact h
  · obtain ⟨u, hu, hm⟩ := hop
    have hready := hu.mounted_imp_ready h
    cases hm with
    | call p f k hgate =>
      refine ⟨hready, fun hp => ?_⟩
      obtain ⟨hsame, hpast⟩ := hgate hp
      exact hsame.trans (h.cardReady_of_pastGate hpast)
    | finish | fill | delay | deselect => exact ⟨hready, nofun⟩

/-! ### Register forms (R40, R46, R280) -/

/-- The fourth byte packed into a register is its top one (R40). -/
theorem wordOfBytes_top (b0 b1 b2 b3 : Byte) : (wordOfBytes b0 b1 b2 b3).extractLsb' 24 8 = b3 := by
  unfold wordOfBytes
  ext i hi
  simp
  grind

theorem ResultWrite.normInv {i : Instr} {s u : State} (hw : ResultWrite s i u) (h : NormInv s) : NormInv u := by
  cases hw with
  | norm hi n => exact wordOfBytes_top _ _ _ _
  | nothing | result | initStart | initDone | mountStart | mountDone | file => exact h

/-- Settles O52: only a completion writes CODE, only NORM's packing writes NORM2, and only acceptance latches a name. -/
theorem registerFormsKept : Obligations.RegisterFormsKept := by
  unfold Obligations.RegisterFormsKept
  intro s t hcode hnorm hlatch hstep
  refine step_keeps (P := fun s => CodeInv s ∧ NormInv s ∧ LatchInv s) (fun s t hst h => ?_) (fun s => ?_)
    (fun w s _ h => ?_) (fun s _ _ h => ?_) (fun i s t _ _ hop h => ?_) s t ⟨hcode, hnorm, hlatch⟩ hstep
  · rw [hst]; exact h
  · exact ⟨Nat.zero_le 9, (by decide : NormInv State.reset), rfl⟩
  · obtain ⟨hcode, hnorm, -⟩ := h
    exact ⟨hcode, hnorm, rfl⟩
  · rw [busOnly_transactionStep s]; exact h
  · obtain ⟨u, hu, hm⟩ := hop
    obtain ⟨hcode, hnorm, hlatch⟩ := h
    have hnorm' := hu.normInv hnorm
    have hcode' : CodeInv u := by cases hu <;> exact hcode
    have hlatch' : LatchInv u := by cases hu <;> exact hlatch
    cases hm with
    | finish hc => exact ⟨hc, hnorm', hlatch'⟩
    | call | fill | delay | deselect => exact ⟨hcode', hnorm', hlatch'⟩

/-! ### The sector buffer (R47, R172, R173) -/

theorem storedBuffer_wf (store : Option Nat) (s : State) (h : s.sb.wf) : (storedBuffer store s).wf := by
  cases store with
  | none => exact h
  | some a => exact Memory.wf_write s.sb a s.nextIn h

/-- A byte reads as before unless it is the one stored. -/
theorem read_storedBuffer_ne {store : Option Nat} {a : Nat} (s : State) (hlt : ∀ b, store = some b → b < 512)
    (hne : store ≠ some a) : (storedBuffer store s).read a = s.sb.read a := by
  cases store with
  | none => rfl
  | some b =>
    show (s.sb.write b s.nextIn).read a = s.sb.read a
    rw [Memory.read_write _ _ _ _ (hlt b rfl), if_neg fun hab => hne (congrArg some hab.symm)]

/-- The byte stored is the one clocked in. -/
theorem read_storedBuffer_self {store : Option Nat} {a : Nat} (s : State) (hlt : a < 512) (h : store = some a) :
    (storedBuffer store s).read a = some s.nextIn := by
  subst h
  show (s.sb.write a s.nextIn).read a = some s.nextIn
  rw [Memory.read_write _ _ _ _ hlt, if_pos rfl]

theorem sectorInv_transactionStep (s : State) (hph : s.txn.phase ≠ .complete) (h : SectorInv s) :
    SectorInv (transactionStep s) := by
  obtain ⟨hwf, hwritten, hle, htrailing⟩ := h
  have hsb := (primitiveStep_transactionStep s hph).sb
  obtain ⟨hclaims, htrailing'⟩ := claimsAtMost_transactionStep s htrailing
  have hbound : (storeIndex s).elim (storedCount s.txn) (· + 1) ≤ 512 := by
    cases hstore : storeIndex s with
    | none => exact hle
    | some b => exact (storeIndex_bounds hstore).1
  refine ⟨by rw [hsb]; exact storedBuffer_wf _ s hwf, fun a ha => ?_, hclaims.trans hbound, htrailing'⟩
  rw [hsb]
  by_cases hstored : storeIndex s = some a
  · rw [read_storedBuffer_self s (storeIndex_bounds hstored).1 hstored]; rfl
  · rw [read_storedBuffer_ne s (fun b hb => (storeIndex_bounds hb).1) hstored]
    refine hwritten a ?_
    have hlt := ha.trans_le hclaims
    cases hstore : storeIndex s with
    | none => rwa [hstore] at hlt
    | some b =>
      have hle := (storeIndex_bounds hstore).2
      have hne : a ≠ b := fun hab => hstored (hab ▸ hstore)
      rw [hstore] at hlt
      have hlt : a < b + 1 := hlt
      omega

/-- A record that claims no byte is met by any canonical buffer. -/
theorem sectorInv_of_claims_none {s : State} (hwf : s.sb.wf) (h : ClaimsAtMost 0 s.txn) : SectorInv s := by
  obtain ⟨hzero, htrailing⟩ := h
  exact ⟨hwf, fun a ha => absurd ha (by omega), by omega, htrailing⟩

theorem claimsAtMost_idle : ClaimsAtMost 0 Txn.none := claimsAtMost_of_eq_zero rfl nofun

theorem ResultWrite.sectorInv {i : Instr} {s u : State} (hw : ResultWrite s i u) (h : SectorInv s) :
    SectorInv u := by
  cases hw <;> exact h

theorem ResumeEvent.sectorInv {s u t : State} (hm : ResumeEvent s u t) (h : SectorInv u) : SectorInv t := by
  cases hm with
  | call p f k => exact sectorInv_of_claims_none h.1 (claimsAtMost_of_eq_zero rfl nofun)
  | finish | fill | delay | deselect => exact h

theorem sectorInv_step (s t : State) (h : SectorInv s) (hstep : step s = .next t) : SectorInv t := by
  refine step_keeps (P := SectorInv) (fun s t hst h => ?_) (fun s => ?_) (fun w s _ h => ?_)
    (fun s _ hph h => sectorInv_transactionStep s hph h) (fun i s t _ _ hop h => ?_) s t h hstep
  · rw [hst]; exact h
  · exact sectorInv_of_claims_none Memory.wf_reset claimsAtMost_idle
  · exact sectorInv_of_claims_none h.1 claimsAtMost_idle
  · obtain ⟨u, hu, hm⟩ := hop
    exact hm.sectorInv (hu.sectorInv h)

/-- Settles O53: a finished transaction whose token is the data-start token claims the whole sector. -/
theorem sectorBufferKept : Obligations.SectorBufferKept := by
  unfold Obligations.SectorBufferKept
  intro s t h hstep
  have ht := sectorInv_step s t h hstep
  refine ⟨ht, fun hph htok a ha => ht.2.1 a ?_⟩
  simp only [storedCount, hph]
  rwa [if_pos (show t.txn.tok = dataStart from htok)]

/-! ### Reset (R50) -/

/-- Settles O49: the reset state is idle, deselected and empty. -/
theorem resetMeetsInvariants : Obligations.ResetMeetsInvariants := by
  have hsession : SessionInv State.reset := by decide
  refine ⟨by decide, hsession, by decide, by decide, by decide, by decide, ?_, trivial, hsession, ?_, rfl⟩
  · exact sectorInv_of_claims_none Memory.wf_reset claimsAtMost_idle
  · exact fun h => absurd rfl h

end Sys2Proof.Machine
end

section
/-! ## What an instruction does and leaves unchanged (R34-R47, R165, R172, R282, R285)

The frames of the instructions, read off `exec_cases` and the cases of an operation's step outside its transactions. -/

namespace Sys2Proof.Machine

/-- Settles O10: inside a transaction the engine executes the frame's own next step. -/
theorem stepAdvancesTransaction : Obligations.StepAdvancesTransaction := by
  unfold Obligations.StepAdvancesTransaction
  intro s op p ha hm hseq hph
  rw [step_of_moves_nil s ha hm, engineStep_transaction s op p hseq hph]

/-! ### One event per step (R45, R282, R285) -/

/-- One step of an instruction: a bus primitive that leaves the handshake, or the completion. -/
def OneEvent (s t : State) : Prop :=
  ∃ e, t.history = s.history ++ [e] ∧
    ((isPrimitive e = true ∧ t.busy = s.busy ∧ t.done = s.done ∧ t.code = s.code) ∨
      (∃ c, e = .opEnd c ∧ t.code = c ∧ t.busy = false ∧ t.done = true ∧ t.seq = .idle))

/-- A step of a transaction under way is one primitive, whichever bytes are being sent. -/
theorem oneEvent_transactionStep (s : State) (hph : s.txn.phase ≠ .complete) : OneEvent s (transactionStep s) := by
  obtain ⟨e, he, hhistory⟩ := (primitiveStep_transactionStep s hph).event
  have hpart := (busOnly_transactionStep s).handshakePart
  simp only [State.handshakePart, Prod.mk.injEq] at hpart
  obtain ⟨hbusy, hdone, hcode, -⟩ := hpart
  exact ⟨e, hhistory, .inl ⟨he, hbusy, hdone, hcode⟩⟩

theorem ResumeStep.oneEvent {i : Instr} {s t : State} (h : ResumeStep i s t) : OneEvent s t := by
  obtain ⟨u, hu, hm⟩ := h
  obtain ⟨-, -, -, -, hhistory⟩ := hu.busPart
  have hpart := hu.handshakePart
  simp only [State.handshakePart, Prod.mk.injEq] at hpart
  obtain ⟨hbusy, hdone, hcode, -⟩ := hpart
  unfold OneEvent
  rw [← hhistory, ← hbusy, ← hdone, ← hcode]
  cases hm with
  | finish hc => exact ⟨_, rfl, .inr ⟨_, rfl, rfl, rfl, rfl, rfl⟩⟩
  | call | fill | delay | deselect => exact ⟨_, rfl, .inl ⟨rfl, rfl, rfl, rfl⟩⟩

/-- Settles O13: every step of an instruction is one primitive or the completion. -/
theorem oneEventPerStep : Obligations.OneEventPerStep := by
  unfold Obligations.OneEventPerStep
  intro i s
  obtain ⟨t, ht, hcases⟩ := exec_cases i s
  have hevent : OneEvent s t := by
    obtain ⟨hph, f, rfl⟩ | ⟨-, -, f, k, rfl⟩ | ⟨-, hi, rfl⟩ := hcases
    · exact oneEvent_transactionStep { s with txn := { s.txn with frame := f } } hph
    · exact ⟨.csEv .sel, rfl, .inl ⟨rfl, rfl, rfl, rfl⟩⟩
    · exact (resumeStep_resumeOf i s hi).oneEvent
  obtain ⟨e, hhistory, hkind⟩ := hevent
  exact ⟨t, e, ht, hhistory, hkind⟩

/-! ### The host's registers and the results (R34-R44) -/

theorem hostPart_exec {i : Instr} {s t : State} (h : exec i s = .next t) : t.hostPart = s.hostPart := by
  rcases busOnly_or_resumeStep i s t h with hbus | ⟨u, hu, hm⟩
  · exact hbus.hostPart
  · exact hm.hostPart.trans hu.hostPart

/-- Settles O37: neither a transaction nor an operation outside one writes any of these. -/
theorem instructionsLeaveHostState : Obligations.InstructionsLeaveHostState := by
  unfold Obligations.InstructionsLeaveHostState
  intro i s t h
  simpa only [State.hostPart, Prod.mk.injEq] using hostPart_exec h

/-- The results an instruction leaves are those of one of its own writes. -/
theorem resultPart_exec {i : Instr} {s t : State} (h : exec i s = .next t) :
    ∃ u, ResultWrite s i u ∧ t.resultPart = u.resultPart := by
  rcases busOnly_or_resumeStep i s t h with hbus | ⟨u, hu, hm⟩
  · exact ⟨s, .nothing i, hbus.resultPart⟩
  · exact ⟨u, hu, hm.resultPart⟩

/-- Settles O38: each write is listed with its owner. -/
theorem resultsWrittenByTheirOwners : Obligations.ResultsWrittenByTheirOwners := by
  unfold Obligations.ResultsWrittenByTheirOwners
  intro i s t h
  obtain ⟨u, hu, hpart⟩ := resultPart_exec h
  simp only [State.resultPart, Prod.mk.injEq] at hpart
  obtain ⟨hresult, hnorm0, hnorm1, hnorm2, hgeo, hfclus, hfsize, hready, hmounted⟩ := hpart
  rw [hresult, hnorm0, hnorm1, hnorm2, hgeo, hfclus, hfsize, hready, hmounted]
  cases hu with
  | nothing => simp
  | result hi r => exact ⟨fun hni => absurd hi hni, by simp⟩
  | norm hi n => simp [hi]
  | initStart | initDone | mountStart | mountDone | file => simp

/-! ### The bus and the sector buffer (R36, R37, R47, R172) -/

/-- Settles O39: an operation outside its transactions writes no response, and the pure ones only end. -/
theorem onlyTransactionsWriteResponses : Obligations.OnlyTransactionsWriteResponses := by
  unfold Obligations.OnlyTransactionsWriteResponses
  refine ⟨fun i s t hi hph h => ?_, fun i s t hi hph h => ?_⟩
  · rw [exec_resume i s hi hph] at h
    cases h
    obtain ⟨u, hu, hm⟩ := resumeStep_resumeOf i s hi
    simpa only [State.responsePart, Prod.mk.injEq] using hm.responsePart.trans hu.responsePart
  · have hhost : isHostOp i = true := by
      revert i; simp [isHostOp]
    rw [exec_resume i s hhost hph] at h
    cases h
    obtain ⟨u, c, hu, -, heq⟩ := resumeOf_eq_finish i hi s.point s
    obtain ⟨hcs, htxn, hin, hdraws, hhistory⟩ := hu.busPart
    rw [heq]
    exact ⟨hcs, htxn, hin, hdraws, c, by rw [finish_history, hhistory]⟩

/-- An instruction's step leaves SB with the byte it stores, if it stores one. -/
theorem sb_exec {i : Instr} {s t : State} (h : exec i s = .next t) : t.sb = storedBuffer (storeIndex s) s := by
  obtain ⟨t', ht', hcases⟩ := exec_cases i s
  cases ht'.symm.trans h
  obtain ⟨hph, f, rfl⟩ | ⟨hph, -, f, k, rfl⟩ | ⟨hph, hi, rfl⟩ := hcases
  · exact (primitiveStep_transactionStep { s with txn := { s.txn with frame := f } } hph).sb
  · rw [storeIndex_of_complete hph]; rfl
  · obtain ⟨u, hu, hm⟩ := resumeStep_resumeOf i s hi
    have hpart := hm.responsePart.trans hu.responsePart
    simp only [State.responsePart, Prod.mk.injEq] at hpart
    obtain ⟨-, -, -, hsb⟩ := hpart
    rw [storeIndex_of_complete hph, hsb]
    rfl

/-- Settles O40: SB after the step is SB before it with the one byte stored. -/
theorem onlyTheStoredByteChanges : Obligations.OnlyTheStoredByteChanges := by
  unfold Obligations.OnlyTheStoredByteChanges
  intro i s t h
  rw [sb_exec h]
  refine ⟨fun a ha => ?_, fun a ha => ?_, storeIndex_of_complete⟩
  · exact read_storedBuffer_ne s (fun b hb => (storeIndex_bounds hb).1) ha
  · have hlt := (storeIndex_bounds ha).1
    exact ⟨hlt, read_storedBuffer_self s hlt ha⟩

end Sys2Proof.Machine
end

section
/-! ## The host's side (R31-R43, R50, R286, R287, R311)

What each of the host's accesses makes of the state, by the index it goes to. -/

namespace Sys2Proof.Machine

theorem step_of_moves_write (s : State) (n : BitVec 6) (v : Word) (rest : List HostMove) (ha : s.cfg.admitted = true)
    (hm : s.moves = .write n v :: rest) : step s = .next (regWrite n v { s with moves := rest }) := by
  simp [step, advance, ha, hm]

theorem step_of_moves_read (s : State) (n : BitVec 6) (rest : List HostMove) (ha : s.cfg.admitted = true)
    (hm : s.moves = .read n :: rest) : step s = .next (portRead n { s with moves := rest }) := by
  simp [step, advance, ha, hm]

theorem step_of_moves_reset (s : State) (rest : List HostMove) (ha : s.cfg.admitted = true)
    (hm : s.moves = .reset :: rest) : step s = .next (resetBlock { s with moves := rest }) := by
  simp [step, advance, ha, hm]

/-! ### Writes -/

/-- A 1 in bit 4 of STATUS clears OVERRUN (R33). -/
theorem regWrite_status (v : Word) (s : State) :
    regWrite 0x01 v s = { s with overrun := s.overrun && !v.getLsbD 4 } := by
  show (if v.getLsbD 4 then { s with overrun := false } else s) = _
  cases hv : v.getLsbD 4 <;> simp

/-- Read-only and reserved indices ignore a write (R31, R43). -/
theorem regWrite_ignored (n : BitVec 6) (v : Word) (s : State) (hn : 3 ≤ n.toNat ∧ n.toNat ≤ 5 ∨ 0x0B ≤ n.toNat) :
    regWrite n v s = s := by
  unfold regWrite
  split
  case h_9 => rfl
  all_goals omega

/-- Settles O41: each index by its own arm of the register write. -/
theorem hostWritesReachTheirRegisters : Obligations.HostWritesReachTheirRegisters := by
  unfold Obligations.HostWritesReachTheirRegisters
  intro s v rest n ha hm
  rw [step_of_moves_write s n v rest ha hm]
  refine ⟨?_, ?_, ?_, ?_, ?_, ?_, ?_, fun hn => by rw [regWrite_ignored n v _ hn]⟩
  · rintro rfl; rw [regWrite_status]
  all_goals rintro rfl; rfl

/-- Byte `j` of the name stands in its register `j / 4` (R39). -/
theorem getD_nameBytes (s : State) : ∀ j < 16, s.nameBytes.getD j 0 =
    (if j / 4 = 0 then s.name0 else if j / 4 = 1 then s.name1 else if j / 4 = 2 then s.name2 else s.name3).extractLsb'
      (8 * (j % 4)) 8 := by
  intro j hj
  interval_cases j <;> rfl

/-- Settles O42: an idle block accepts, with the name bytes latched; a busy one only notes the overrun. -/
theorem commandAcceptedOrDropped : Obligations.CommandAcceptedOrDropped := by
  unfold Obligations.CommandAcceptedOrDropped
  intro s w rest ha hm
  have hwrite : step s = .next (writeCmd w { s with moves := rest }) := step_of_moves_write s 0x00 w rest ha hm
  rw [hwrite]
  refine ⟨fun hidle => ⟨s.nameBytes, rfl, getD_nameBytes s, ?_⟩, fun hbusy => ?_⟩
  · simp only [writeCmd, hidle]; rfl
  · simp only [writeCmd, hbusy, if_true]

/-! ### Reads -/

/-- Outside the output registers, or with BUSY = 0, a read returns the register's contents and changes nothing of the
block (R93, R321). -/
theorem portRead_exact (n : BitVec 6) (s : State) (h : s.busy = false ∨ isOutput n = false) :
    portRead n s = { s with reads := s.reads ++ [.reg n (regRead n s)] } := by
  unfold portRead
  rcases h with h | h <;> simp [h]

theorem isOutput_eq_false {n : BitVec 6} (h : n.toNat ≤ 2 ∨ 6 ≤ n.toNat ∧ n.toNat ≤ 0x0A ∨ 0x1B ≤ n.toNat) :
    isOutput n = false := by
  simp [isOutput]
  omega

/-- Reserved indices read 0 (R32, R43). -/
theorem regRead_reserved (n : BitVec 6) (s : State) (hn : 0x1B ≤ n.toNat) : regRead n s = 0 := by
  unfold regRead
  split
  case h_27 => rfl
  all_goals omega

/-- The fields of R1TOK (R36). -/
theorem r1tokWord_fields (s : State) :
    (r1tokWord s).extractLsb' 0 8 = s.r1Last ∧ (r1tokWord s).extractLsb' 8 8 = s.tokenLast ∧
      (r1tokWord s).extractLsb' 16 16 = 0 := by
  unfold r1tokWord
  refine ⟨?_, ?_, ?_⟩ <;> (ext i hi; simp only [BitVec.getElem_extractLsb', BitVec.getLsbD_append]; grind)

/-- Settles O45: each index by its own arm of the register read. -/
theorem registerReads : Obligations.RegisterReads := by
  unfold Obligations.RegisterReads
  intro s n rest ha hm hn
  have hexact := portRead_exact n { s with moves := rest } (hn.imp_right isOutput_eq_false)
  have hstep : step s = .next { s with moves := rest, reads := s.reads ++ [.reg n (regRead n s)] } := by
    rw [step_of_moves_read s n rest ha hm, hexact]; rfl
  refine ⟨regRead n s, hstep, ?_, ?_, ?_, ?_, ?r1tok, ?_, ?nameLen, ?_, ?_, ?_, ?_, ?_, ?_, ?_, ?bps, ?spc, ?rsvd,
    ?nfats, ?_, ?_, ?_, ?_, ?_, ?_, ?_, ?_, ?_, regRead_reserved n s⟩
  case r1tok => rintro rfl; exact r1tokWord_fields s
  case nameLen | bps | spc | rsvd | nfats => rintro rfl; exact BitVec.toNat_setWidth_of_le (by decide)
  all_goals rintro rfl; rfl

/-! ### Reset -/

/-- Settles O48: reset puts every field of the block at its reset value, whatever was under way. -/
theorem resetAtAnyTime : Obligations.ResetAtAnyTime := by
  unfold Obligations.ResetAtAnyTime
  intro s rest ha hm
  refine ⟨_, step_of_moves_reset s rest ha hm, ?_⟩
  iterate 26 refine ⟨rfl, ?_⟩
  exact ⟨fun _ => rfl, rfl⟩

/-! ### STATUS -/

/-- Bits 0 to 5 of STATUS are its flags (R33). -/
theorem statusWord_flags (s : State) :
    (statusWord s).getLsbD 0 = s.busy ∧ (statusWord s).getLsbD 1 = s.done ∧
      (statusWord s).getLsbD 2 = s.cardReady ∧ (statusWord s).getLsbD 3 = s.mounted ∧
      (statusWord s).getLsbD 4 = s.overrun ∧ (statusWord s).getLsbD 5 = decide (s.cs = .sel) := by
  unfold statusWord bitOf
  simp only [BitVec.getLsbD_append]
  exact ⟨by simp, by simp, by simp, by simp, by simp, by simp; rfl⟩

/-- Bits 6 and up of STATUS: CODE and LAST_OPC, with the reserved fields 0 (R33). -/
theorem statusWord_fields (s : State) :
    (statusWord s).extractLsb' 6 2 = 0 ∧ (statusWord s).extractLsb' 8 8 = s.code ∧
      (statusWord s).extractLsb' 16 8 = s.lastOpc ∧ (statusWord s).extractLsb' 24 8 = 0 := by
  unfold statusWord
  refine ⟨?_, ?_, ?_, ?_⟩ <;> (ext i hi; simp only [BitVec.getElem_extractLsb', BitVec.getLsbD_append]; grind)

/-- Settles O44: each field of STATUS is read back from where the word puts it. -/
theorem statusFields : Obligations.StatusFields := by
  unfold Obligations.StatusFields
  intro s
  obtain ⟨hbusy, hdone, hready, hmounted, hoverrun, hcs⟩ := statusWord_flags s
  exact ⟨hbusy, hdone, hready, hmounted, hoverrun, hcs, statusWord_fields s⟩

end Sys2Proof.Machine
end

/-! # Proofs: memory and the host's ports (20_memory.md R82-R85, R96, R97) -/

section
/-! ## The bus discipline (R85, R96, R151, R152, R165-R167)

The history stands where the state says: the one event of each step moves the acceptor to the state's next position. -/

namespace Sys2Proof

/-- The first byte of a framer's frame has the marker bits 01 (R116). -/
theorem frameByte_zero_marker (c : Config) (idx : BitVec 6) (arg : Word) (chk : Byte) :
    frameByte (frameWord c idx arg chk) 0 &&& 0xC0 = 0x40 := by
  unfold frameByte frameWord; ext i hi; simp; interval_cases i <;> grind

namespace Machine

/-! ### The frame of the transaction under way -/

/-- `t` has the transaction record of `s`, or has just selected the card for a frame the framer made (R150, R165). -/
def RecordKeptOrBegun (s t : State) : Prop :=
  t.txn = s.txn ∨
    ∃ idx arg chk k, t.txn = { Txn.fresh (frameWord s.cfg idx arg chk) k with phase := .selected }

theorem recordKeptOrBegun_call (p : Point) (idx : BitVec 6) (arg : Word) (chk : Byte) (k : RespKind) (s : State) :
    RecordKeptOrBegun s (sendCommand p (frameWord s.cfg idx arg chk) k s) := .inr ⟨idx, arg, chk, k, rfl⟩

theorem recordKeptOrBegun_blockRead (p : Point) (sector : Word) (s : State) :
    RecordKeptOrBegun s (blockRead p sector s) := recordKeptOrBegun_call p 17 sector 0x00 .data s

theorem recordKeptOrBegun_initRetry (a n : Nat) (s : State) : RecordKeptOrBegun s (initRetry a n s) := by
  unfold initRetry; split <;> exact .inl rfl

theorem recordKeptOrBegun_resumeInit (p : Point) (s : State) : RecordKeptOrBegun s (resumeInit p s) := by
  unfold resumeInit
  split
  · exact .inl rfl
  · exact recordKeptOrBegun_call _ _ _ _ _ s
  · exact .inl rfl
  · split
    · exact recordKeptOrBegun_call _ _ _ _ _ s
    · split
      · exact .inl rfl
      · exact recordKeptOrBegun_call _ _ _ _ _ s
  · split
    · exact .inl rfl
    · split
      · exact recordKeptOrBegun_call _ _ _ _ _ s
      · exact .inl rfl
  · split
    · exact recordKeptOrBegun_initRetry _ _ s
    · exact recordKeptOrBegun_call _ _ _ _ _ s
  · split
    · exact .inl rfl
    · exact recordKeptOrBegun_initRetry _ _ s
  · exact recordKeptOrBegun_call _ _ _ _ _ s
  · exact recordKeptOrBegun_call _ _ _ _ _ s
  · exact .inl rfl
  · exact .inl rfl

theorem recordKeptOrBegun_resumeSendcmd (idx : BitVec 6) (rtype : BitVec 2) (chk : Byte) (p : Point) (s : State) :
    RecordKeptOrBegun s (resumeSendcmd idx rtype chk p s) := by
  unfold resumeSendcmd
  split
  · exact .inl rfl
  · split
    · exact recordKeptOrBegun_call _ _ _ _ _ s
    · exact .inl rfl

theorem recordKeptOrBegun_resumeRdblk (p : Point) (s : State) : RecordKeptOrBegun s (resumeRdblk p s) := by
  unfold resumeRdblk
  split
  · split <;> exact .inl rfl
  · split
    · exact recordKeptOrBegun_blockRead _ _ s
    · exact .inl rfl

theorem recordKeptOrBegun_resumeMount (p : Point) (s : State) : RecordKeptOrBegun s (resumeMount p s) := by
  unfold resumeMount
  split
  · split
    · exact .inl rfl
    · split
      · exact .inl rfl
      · split
        · exact recordKeptOrBegun_blockRead _ _ s
        · exact .inl rfl
  · split
    · exact .inl rfl
    · split <;> exact .inl rfl
  · split
    · exact recordKeptOrBegun_blockRead _ _ { s with mounted := false }
    · exact .inl rfl

theorem recordKeptOrBegun_readDirectory (k : Nat) (target : List Byte) (s0 : Word) (s : State) :
    RecordKeptOrBegun s (readDirectory k target s0 s) := by
  unfold readDirectory
  split
  · exact recordKeptOrBegun_blockRead _ _ s
  · exact .inl rfl

theorem recordKeptOrBegun_resumeRdfile (p : Point) (s : State) : RecordKeptOrBegun s (resumeRdfile p s) := by
  unfold resumeRdfile
  split
  · split
    · exact .inl rfl
    · split
      · exact .inl rfl
      · exact recordKeptOrBegun_blockRead _ _ s
      · exact recordKeptOrBegun_readDirectory _ _ _ s
  · split <;> exact .inl rfl
  · unfold startRdfile
    split
    · exact .inl rfl
    · split
      · exact recordKeptOrBegun_readDirectory _ _ _ (s.withNorm _)
      · exact .inl rfl

theorem recordKeptOrBegun_resumeNorm (p : Point) (s : State) : RecordKeptOrBegun s (resumeNorm p s) := by
  unfold resumeNorm; split <;> exact .inl rfl

/-- Whatever an operation sends is a frame of the framer. -/
theorem recordKeptOrBegun_resumeOf (i : Instr) (s : State) : RecordKeptOrBegun s (resumeOf i s.point s) := by
  cases i with
  | init => exact recordKeptOrBegun_resumeInit s.point s
  | sendcmd idx rtype chk => exact recordKeptOrBegun_resumeSendcmd idx rtype chk s.point s
  | rdblk => exact recordKeptOrBegun_resumeRdblk s.point s
  | mount => exact recordKeptOrBegun_resumeMount s.point s
  | rdfile => exact recordKeptOrBegun_resumeRdfile s.point s
  | norm => exact recordKeptOrBegun_resumeNorm s.point s
  | c2s | decr1 | decr3 | decr7 => exact .inl rfl
  | cmd0 | cmd8 | cmd55 | acmd41 | cmd58 | cmd17 _ | sdframe _ _ _ => exact .inl rfl

/-- With no transaction under way before, the frame just begun has its marker bits and its stop bit. -/
theorem RecordKeptOrBegun.frameInv {s t : State} (h : RecordKeptOrBegun s t) (hcfg : t.cfg = s.cfg)
    (hph : s.txn.phase = .complete) : FrameInv t := by
  unfold FrameInv
  rw [hcfg]
  obtain htxn | ⟨idx, arg, chk, k, htxn⟩ := h <;> rw [htxn]
  · exact fun hopen => absurd hph hopen
  · refine fun _ => ⟨frameByte_zero_marker s.cfg idx arg chk, ?_, nofun⟩
    exact (congrArg (· &&& _) (frameByte_five s.cfg idx arg chk)).trans (checksumByte_stop s.cfg chk)

/-! ### The positions of the response read -/

/-- The positions from the end of the frame to the settle byte, at which only fillers are sent (R161-R172). -/
def Phase.inResponse : Phase → Bool
  | .r1Poll _ _ | .trailing _ | .tokenPoll _ _ | .data _ | .crc1 | .crc2 | .settled => true
  | .start | .selected | .frame _ | .deselected | .complete => false

/-- `t` is still in the response read of the frame that `s` has sent. -/
structure StaysInResponse (s t : State) : Prop where
  phase : t.txn.phase.inResponse = true
  frame : t.txn.frame = s.txn.frame

theorem staysInResponse_readTrailing (got : List Byte) (s : State) : StaysInResponse s (readTrailing got s) := by
  unfold readTrailing; split <;> exact ⟨rfl, rfl⟩

theorem staysInResponse_dataPhase (i : Nat) (s : State) : StaysInResponse s (dataPhase i s) := by
  unfold dataPhase; split <;> exact ⟨rfl, rfl⟩

theorem staysInResponse_pollToken (polls : Nat) (last : Byte) (s : State) :
    StaysInResponse s (pollToken polls last s) := by
  unfold pollToken
  split
  · split
    · obtain ⟨hphase, hframe⟩ := staysInResponse_dataPhase 0 { s with txn := { s.txn with tok := last } }
      exact ⟨hphase, hframe⟩
    · exact ⟨rfl, rfl⟩
  · exact ⟨rfl, rfl⟩

theorem staysInResponse_afterR1 (r : Byte) (s : State) : StaysInResponse s (afterR1 r s) := by
  unfold afterR1
  dsimp only
  split
  case h_1 => exact ⟨rfl, rfl⟩
  case h_2 | h_3 => split <;> exact ⟨rfl, rfl⟩
  case h_4 =>
    split
    · exact ⟨rfl, rfl⟩
    · obtain ⟨hphase, hframe⟩ := staysInResponse_pollToken 0 0xFF
        { s with r1Last := r, txn := { s.txn with r1 := r, word := none, tok := 0xFF } }
      exact ⟨hphase, hframe⟩

theorem staysInResponse_pollR1 (polls : Nat) (last : Byte) (s : State) :
    StaysInResponse s (pollR1 polls last s) := by
  unfold pollR1
  split
  · exact staysInResponse_afterR1 last s
  · exact ⟨rfl, rfl⟩

/-! ### The acceptor at the positions of a transaction -/

theorem busRun_append (stop : Byte) (h : List Event) (e : Event) :
    busRun stop (h ++ [e]) = (busRun stop h).bind (busAccept stop · e) := by
  simp only [busRun, List.foldlM_append, List.foldlM_cons, List.foldlM_nil, bind_pure]
  rfl

/-- The marker bits as a mask test and as a field (R116). -/
theorem marker_of_mask : ∀ b : Byte, b &&& 0xC0 = 0x40 → b.extractLsb' 6 2 = 0b01#2 := by decide

/-- After the settle byte and `i` frame bytes the acceptor takes the next byte of a well-formed frame (R116, R152). -/
theorem busAccept_frameByte {stop : Byte} {f : BitVec 48} {i : Nat} (inp : Byte) (hi : i ≤ 5)
    (hmarker : frameByte f 0 &&& 0xC0 = 0x40) (hstop : frameByte f 5 &&& stop = stop) :
    busAccept stop (.selected (i + 1)) (.xchgEv (frameByte f i) inp) = some (.selected (i + 2)) := by
  interval_cases i
  · exact if_pos (marker_of_mask _ hmarker)
  · rfl
  · rfl
  · rfl
  · rfl
  · exact if_pos hstop

theorem busStateOf_idle {s : State} (hbusy : s.busy = false) : busStateOf s = .closed := by
  rw [busStateOf, hbusy]; rfl

theorem busStateOf_complete {s : State} (hbusy : s.busy = true) (hph : s.txn.phase = .complete) :
    busStateOf s = .opened := by
  rw [busStateOf, hbusy, hph]; rfl

theorem busStateOf_inResponse {s : State} (hbusy : s.busy = true) (h : s.txn.phase.inResponse = true) :
    busStateOf s = .selected 7 := by
  rw [busStateOf, if_pos hbusy]
  cases hph : s.txn.phase with
  | start | selected | frame _ | deselected | complete => rw [hph] at h; cases h
  | r1Poll _ _ | trailing _ | tokenPoll _ _ | data _ | crc1 | crc2 | settled => rfl

/-! ### A step of the transaction under way -/

/-- `t` is `s` after one event that the acceptor takes from where `s` stands to where `t` stands, and still sends the
frame of `s`. -/
structure DisciplinedStep (s t : State) : Prop where
  event : ∃ e, t.history = s.history ++ [e] ∧ busAccept s.cfg.stopMask (busStateOf s) e = some (busStateOf t)
  frame : t.txn.frame = s.txn.frame
  sent : ∀ i, t.txn.phase = .frame i → i ≤ 5

/-- A filler of the response read (R161-R172). -/
theorem ReadExchange.disciplinedStep {store : Option Nat} {s t : State} (hx : ReadExchange store s t)
    (ht : StaysInResponse s t) (hs : s.txn.phase.inResponse = true) (hbusy : s.busy = true) (hbusy' : t.busy = true) :
    DisciplinedStep s t where
  event := ⟨_, hx.history, by rw [busStateOf_inResponse hbusy hs, busStateOf_inResponse hbusy' ht.phase]; rfl⟩
  frame := ht.frame
  sent i hi := by have hph := ht.phase; rw [hi] at hph; cases hph

theorem disciplinedStep_transactionStep (s : State) (hbusy : s.busy = true) (hph : s.txn.phase ≠ .complete)
    (hframe : FrameInv s) : DisciplinedStep s (transactionStep s) := by
  obtain ⟨hmarker, hstop, hsent⟩ := hframe hph
  have hbusy' : (transactionStep s).busy = true := by rw [busOnly_transactionStep s]; exact hbusy
  cases h : s.txn.phase with
  | start =>
    rw [transactionStep_start s h]
    exact ⟨⟨_, rfl, by simp [busStateOf, busAccept, hbusy, h]⟩, rfl, nofun⟩
  | selected =>
    rw [transactionStep_selected s h]
    exact ⟨⟨_, rfl, by simp [busStateOf, busAccept, hbusy, h]⟩, rfl, by rintro i ⟨⟩; exact Nat.zero_le 5⟩
  | frame i =>
    have hi := hsent i h
    rw [transactionStep_frame s i h]
    refine ⟨⟨_, rfl, ?_⟩, rfl, fun j hj => ?_⟩
    · rw [show busStateOf s = .selected (i + 1) by simp [busStateOf, hbusy, h],
        busAccept_frameByte _ hi hmarker hstop]
      by_cases hlast : i < 5
      · simp [busStateOf, hbusy, hlast]
      · obtain rfl : i = 5 := by omega
        simp [busStateOf, hbusy]
    · have hnext : (if i < 5 then Phase.frame (i + 1) else .r1Poll 0 0xFF) = .frame j := hj
      split at hnext
      · cases hnext; omega
      · cases hnext
  | r1Poll k r =>
    rw [transactionStep_r1Poll s k r h] at hbusy' ⊢
    exact (readExchange_pollR1 k r s).disciplinedStep (staysInResponse_pollR1 k r s) (by rw [h]; rfl) hbusy hbusy'
  | trailing got =>
    rw [transactionStep_trailing s got h] at hbusy' ⊢
    exact (readExchange_readTrailing got s).disciplinedStep (staysInResponse_readTrailing got s) (by rw [h]; rfl) hbusy
      hbusy'
  | tokenPoll p b =>
    rw [transactionStep_tokenPoll s p b h] at hbusy' ⊢
    exact (readExchange_pollToken p b s).disciplinedStep (staysInResponse_pollToken p b s) (by rw [h]; rfl) hbusy
      hbusy'
  | data i =>
    rw [transactionStep_data s i h] at hbusy' ⊢
    exact (readExchange_dataPhase i s).disciplinedStep (staysInResponse_dataPhase i s) (by rw [h]; rfl) hbusy hbusy'
  | crc1 =>
    rw [transactionStep_crc1 s h]
    exact ⟨⟨_, rfl, by simp [busStateOf, busAccept, hbusy, h]⟩, rfl, nofun⟩
  | crc2 =>
    rw [transactionStep_crc2 s h] at hbusy' ⊢
    exact (readExchange_endData dataStart s).disciplinedStep ⟨rfl, rfl⟩ (by rw [h]; rfl) hbusy hbusy'
  | settled =>
    rw [transactionStep_settled s h]
    exact ⟨⟨_, rfl, by simp [busStateOf, busAccept, hbusy, h]⟩, rfl, nofun⟩
  | deselected =>
    rw [transactionStep_deselected s h]
    exact ⟨⟨_, rfl, by simp [busStateOf, busAccept, hbusy, h]⟩, rfl, nofun⟩
  | complete => exact absurd h hph

/-! ### The whole -/

/-- One event that the acceptor takes keeps the history disciplined. -/
theorem busRun_of_event {s t : State} (hrun : busRun s.cfg.stopMask s.history = some (busStateOf s))
    (hcfg : t.cfg = s.cfg)
    (hevent : ∃ e, t.history = s.history ++ [e] ∧ busAccept s.cfg.stopMask (busStateOf s) e = some (busStateOf t)) :
    busRun t.cfg.stopMask t.history = some (busStateOf t) := by
  obtain ⟨e, hhistory, haccept⟩ := hevent
  rw [hcfg, hhistory, busRun_append, hrun]
  exact haccept

theorem busInv_transactionStep (s : State) (hseq : s.seq ≠ .idle) (hph : s.txn.phase ≠ .complete) (h : BusInv s) :
    BusInv (transactionStep s) := by
  obtain ⟨hsession, hframe, hrun⟩ := h
  have hcfg : (transactionStep s).cfg = s.cfg := by rw [busOnly_transactionStep s]
  have hstep := disciplinedStep_transactionStep s (busy_of_running hsession hseq) hph hframe
  refine ⟨sessionInv_transactionStep s hseq hph hsession, fun _ => ?_, busRun_of_event hrun hcfg hstep.event⟩
  obtain ⟨hmarker, hstop, -⟩ := hframe hph
  rw [hstep.frame, hcfg]
  exact ⟨hmarker, hstop, hstep.sent⟩

/-- Outside its transactions an operation stands with the card deselected: there the acceptor takes a completion, the
selection of the card, a filler, a delay and a further deselection. -/
theorem ResumeStep.event_accepted {i : Instr} {s t : State} (h : ResumeStep i s t) (hbusy : s.busy = true)
    (hph : s.txn.phase = .complete) :
    ∃ e, t.history = s.history ++ [e] ∧ busAccept s.cfg.stopMask (busStateOf s) e = some (busStateOf t) := by
  obtain ⟨u, hu, hm⟩ := h
  obtain ⟨-, htxn, -, -, hhistory⟩ := hu.busPart
  have hbusy' : u.busy = true := by cases hu <;> exact hbusy
  have hopened : busStateOf u = .opened := busStateOf_complete hbusy' (by rw [htxn, hph])
  rw [← hhistory, busStateOf_complete hbusy hph]
  cases hm with
  | finish hc => exact ⟨_, rfl, rfl⟩
  | call p f k hgate => exact ⟨.csEv .sel, rfl, by simp [busStateOf, busAccept, hbusy', sendCommand_eq]⟩
  | fill q => exact ⟨_, rfl, congrArg some hopened.symm⟩
  | delay ms q => exact ⟨_, rfl, congrArg some hopened.symm⟩
  | deselect q => exact ⟨_, rfl, congrArg some hopened.symm⟩

theorem ResumeStep.cfg {i : Instr} {s t : State} (h : ResumeStep i s t) : t.cfg = s.cfg := by
  obtain ⟨u, hu, hm⟩ := h
  cases hu <;> cases hm <;> rfl

/-- An operation's step outside its transactions, a completion by R281 among them. -/
theorem busInv_resumeStep {i : Instr} {s t : State} (hop : ResumeStep i s t) (hrecord : RecordKeptOrBegun s t)
    (hseq : s.seq ≠ .idle) (hph : s.txn.phase = .complete) (hsession' : SessionInv t) (h : BusInv s) : BusInv t := by
  obtain ⟨hsession, -, hrun⟩ := h
  exact ⟨hsession', hrecord.frameInv hop.cfg hph,
    busRun_of_event hrun hop.cfg (hop.event_accepted (busy_of_running hsession hseq) hph)⟩

theorem busInv_engineStep (s t : State) (h : BusInv s) (hsession' : SessionInv t) (hstep : engineStep s = .next t) :
    BusInv t := by
  obtain ⟨-, rfl⟩ | ⟨hseq, hph, rfl⟩ | ⟨hseq, hph, ⟨i, hdec, rfl⟩ | ⟨e, -, rfl⟩⟩ := engineStep_cases s t hstep
  · exact h
  · exact busInv_transactionStep s hseq hph h
  · exact busInv_resumeStep (resumeStep_resumeOf i s (decodeHost_isHostOp _ i hdec)) (recordKeptOrBegun_resumeOf i s)
      hseq hph hsession' h
  · exact busInv_resumeStep (resumeStep_finish .init s (by decide)) (.inl rfl) hseq hph hsession' h

/-- An acceptance opens the history of an operation, which an idle block has closed. -/
theorem busInv_accept (w : Word) (s : State) (hidle : s.busy = false) (hsession' : SessionInv (accept w s))
    (h : BusInv s) : BusInv (accept w s) := by
  obtain ⟨-, -, hrun⟩ := h
  refine ⟨hsession', fun hopen => absurd rfl hopen, busRun_of_event hrun rfl ⟨_, rfl, ?_⟩⟩
  rw [busStateOf_idle hidle]
  rfl

theorem busInv_resetBlock (s : State) (hsession' : SessionInv (resetBlock s)) : BusInv (resetBlock s) :=
  ⟨hsession', fun hopen => absurd rfl hopen, rfl⟩

/-- Settles O55: each step adds at most one event, which the acceptor takes from where the state before stands to where
the state after does; a reset empties the history. -/
theorem busDisciplineKept : Obligations.BusDisciplineKept := by
  unfold Obligations.BusDisciplineKept
  intro s t h hstep
  have hsession' := sessionInv_step s t h.1 hstep
  obtain ⟨-, ⟨m, hengine⟩ | ⟨m, rfl⟩ | ⟨m, w, hidle, rfl⟩ | hhost⟩ := step_cases s t hstep
  · exact busInv_engineStep { s with moves := m } t h hsession' hengine
  · exact busInv_resetBlock _ hsession'
  · exact busInv_accept w { s with moves := m } hidle hsession' h
  · rw [hhost]; exact h

end Machine
end Sys2Proof
end

section
/-! ## The reads of MOUNT and RDBLK (R84, R170, R195, R210, R211) -/

namespace Sys2Proof.Machine

/-- A block read selects the card for CMD17 of its sector, unscaled (R84, R170). -/
theorem blockRead_eq_selectedFor (p : Point) (sector : Word) (s : State) :
    blockRead p sector s = selectedFor p (frameWord s.cfg 17 sector 0x00) .data s := rfl

/-- MOUNT at a point that is none of its own is at its start (R210). -/
theorem resumeMount_start {p : Point} (hp : inMount p = false) (s : State) :
    resumeMount p s =
      if s.cardReady then blockRead (.mount .sector0) 0 { s with mounted := false } else finish codeNotReady s := by
  cases p with
  | mount q => cases hp
  | start | init q | sendcmd | rdblk | rdfile q => rfl

/-- Settles O19: at its start MOUNT looks at `card_ready` alone. -/
theorem mountStarts : Obligations.MountStarts := by
  unfold Obligations.MountStarts
  intro s hph hp
  have hexec : exec .mount s = .next (resumeMount s.point s) := exec_resume .mount s rfl hph
  rw [hexec, resumeMount_start hp]
  refine ⟨fun hready => ?_, fun hready => ?_⟩
  · rw [hready, if_neg (by decide)]; rfl
  · rw [if_pos hready, blockRead_eq_selectedFor]

theorem resumeRdblk_start (s : State) :
    resumeRdblk .start s = if s.cardReady then blockRead .rdblk s.latch.arg s else finish codeNotReady s := rfl

/-- RDBLK's read succeeded when its token is 0xFE (R173, R195). -/
theorem resumeRdblk_rdblk (s : State) :
    resumeRdblk .rdblk s = if s.txn.tok = dataStart then finish codeOk s else finish codeReadErr s := rfl

/-- Settles O30: RDBLK's start looks at `card_ready` alone, its end at the token alone. -/
theorem rdblkReadsAndCompletes : Obligations.RdblkReadsAndCompletes := by
  unfold Obligations.RdblkReadsAndCompletes
  intro s hph
  have hexec : exec .rdblk s = .next (resumeRdblk s.point s) := exec_resume .rdblk s rfl hph
  rw [hexec]
  refine ⟨fun hp hready => ?_, fun hp hready => ?_, fun hp htok => ?_, fun hp htok => ?_⟩
  · rw [hp, resumeRdblk_start, hready]; rfl
  · rw [hp, resumeRdblk_start, if_pos hready, blockRead_eq_selectedFor]
  · rw [hp, resumeRdblk_rdblk, if_pos (show s.txn.tok = dataStart from htok)]; rfl
  · rw [hp, resumeRdblk_rdblk, if_neg (show s.txn.tok ≠ dataStart from htok)]; rfl

end Sys2Proof.Machine
end

section
/-! ## The host's racing reads (R82, R83, R97, R321) -/

namespace Sys2Proof.Machine

/-- While BUSY = 1 an output register reads as a free value (R97, R321). -/
theorem portRead_free (n : BitVec 6) (s : State) (hbusy : s.busy = true) (hn : isOutput n = true) :
    portRead n s =
      { s with reads := s.reads ++ [.reg n (Config.busyWord s.draws)], draws := s.draws + 1 } := by
  simp [portRead, hbusy, hn]

theorem isOutput_iff (n : BitVec 6) :
    isOutput n = true ↔ 3 ≤ n.toNat ∧ n.toNat ≤ 5 ∨ 0x0B ≤ n.toNat ∧ n.toNat ≤ 0x1A := by
  simp [isOutput]

/-- Settles O46: the value read is the free one, and only the host's own record of reads and draws grows. -/
theorem outputsWhileBusy : Obligations.OutputsWhileBusy := by
  unfold Obligations.OutputsWhileBusy
  intro s n rest ha hm hbusy hn
  refine ⟨Config.busyWord s.draws, ?_⟩
  rw [step_of_moves_read s n rest ha hm, portRead_free n { s with moves := rest } hbusy ((isOutput_iff n).mpr hn)]

theorem step_of_moves_sbRead (s : State) (i : BitVec 9) (rest : List HostMove) (ha : s.cfg.admitted = true)
    (hm : s.moves = .sbRead i :: rest) : step s = portSbRead i { s with moves := rest } := by
  simp [step, advance, ha, hm]

theorem blockReading_iff (s : State) :
    blockReading s = true ↔ s.busy = true ∧ (s.lastOpc = 0x03 ∨ s.lastOpc = 0x04 ∨ s.lastOpc = 0x07) := by
  simp [blockReading, or_assoc]

/-- While a block-reading operation runs the SB port returns a free byte (R83 (b)). -/
theorem portSbRead_free (i : BitVec 9) (s : State) (h : blockReading s = true) :
    portSbRead i s = .next { s with reads := s.reads ++ [.sb i (Config.busyByte s.draws)], draws := s.draws + 1 } := by
  rw [portSbRead, if_pos h]

/-- Otherwise the SB port returns the byte written (R82). -/
theorem portSbRead_written (i : BitVec 9) (s : State) (h : ¬ blockReading s = true) {b : Byte}
    (hb : s.sb.read i.toNat = some b) : portSbRead i s = .next { s with reads := s.reads ++ [.sb i b] } := by
  rw [portSbRead, if_neg h, hb]

/-- Otherwise an unwritten byte faults (R83 (a)). -/
theorem portSbRead_unwritten (i : BitVec 9) (s : State) (h : ¬ blockReading s = true)
    (hb : s.sb.read i.toNat = none) : portSbRead i s = .fault (.unwrittenSectorByte i) := by
  rw [portSbRead, if_neg h, hb]

/-- Settles O47: the three ways the SB port answers. -/
theorem sectorBufferPort : Obligations.SectorBufferPort := by
  unfold Obligations.SectorBufferPort
  intro s i rest ha hm
  rw [step_of_moves_sbRead s i rest ha hm, ← blockReading_iff]
  refine ⟨fun h => ⟨_, portSbRead_free i { s with moves := rest } h⟩, fun h => ⟨fun b hb => ?_, fun hb => ?_⟩⟩
  · exact portSbRead_written i { s with moves := rest } h hb
  · exact portSbRead_unwritten i { s with moves := rest } h hb

end Sys2Proof.Machine
end

/-! # Proofs: the encodings (30_encoding.md) -/

section
/-! ## Host command words (R110, R111, R113, R114)

The decoder looks at the opcode, and for SENDCMD alone at the three operand fields. -/

namespace Sys2Proof

theorem decodeHost_sendcmd {w : Word} (h : opcodeOf w = 0x02) :
    decodeHost w = .ok (.sendcmd (w.extractLsb' 8 6) (w.extractLsb' 16 2) (w.extractLsb' 24 8)) := by
  simp [decodeHost, h]

/-- Outside SENDCMD the opcode alone decides. -/
theorem decodeHost_congr_opcode {w v : Word} (h : opcodeOf w = opcodeOf v) (hne : opcodeOf w ≠ 0x02) :
    decodeHost w = decodeHost v := by
  unfold decodeHost
  rw [← h]
  split
  case h_2 hop => exact absurd (BitVec.eq_of_toNat_eq hop) hne
  all_goals rfl

theorem decodeHost_defined {w : Word} (h : 1 ≤ (opcodeOf w).toNat ∧ (opcodeOf w).toNat ≤ 0x0A) :
    ∃ i, decodeHost w = .ok i := by
  obtain ⟨hlo, hhi⟩ := h
  unfold decodeHost
  interval_cases (opcodeOf w).toNat <;> exact ⟨_, rfl⟩

theorem decodeHost_reserved {w : Word} (h : opcodeOf w = 0 ∨ 0x0B ≤ (opcodeOf w).toNat) :
    decodeHost w = .error (.reservedOpcode (opcodeOf w)) := by
  have hnat : (opcodeOf w).toNat = 0 ∨ 0x0B ≤ (opcodeOf w).toNat := h.imp_left (congrArg BitVec.toNat)
  unfold decodeHost
  split
  case h_11 => rfl
  all_goals omega

/-- The word of a host operation decodes to that operation (R110, R111). -/
theorem decodeHost_encode (c : Config) (i : Instr) (w : Word) (h : encode c i = .host w) : decodeHost w = .ok i := by
  cases i with
  | sendcmd idx rtype chk =>
    cases h
    rw [decodeHost_sendcmd (hostWord_opcode ..), hostWord_index, hostWord_rtype, hostWord_checksum]
  | init | rdblk | mount | c2s | norm | rdfile | decr1 | decr3 | decr7 => cases h; rfl
  | cmd0 | cmd8 | cmd55 | acmd41 | cmd58 | cmd17 _ | sdframe _ _ _ => cases h

/-- Settles O4: each mask keeps the fields the decoder looks at. -/
theorem reservedFieldsIgnored : Obligations.ReservedFieldsIgnored := by
  unfold Obligations.ReservedFieldsIgnored
  intro w
  refine ⟨fun h => ?_, fun h => decodeHost_congr_opcode ?_ h⟩
  · have hmask : opcodeOf (w &&& 0xFF033FFF) = 0x02 := by
      rw [opcodeOf, BitVec.extractLsb'_and, h]; rfl
    rw [decodeHost_sendcmd h, decodeHost_sendcmd hmask]
    simp only [BitVec.extractLsb'_and]
    congr 2 <;> exact BitVec.and_allOnes.symm
  · rw [opcodeOf, opcodeOf, BitVec.extractLsb'_and]
    exact BitVec.and_allOnes.symm

/-- Settles O5: the ten defined opcodes and the reserved ones are all there are, and each has one outcome. -/
theorem reservedOpcodesRejected : Obligations.ReservedOpcodesRejected := by
  unfold Obligations.ReservedOpcodesRejected
  intro w
  rw [show w.extractLsb' 0 8 = opcodeOf w from rfl]
  by_cases hdef : 1 ≤ (opcodeOf w).toNat ∧ (opcodeOf w).toNat ≤ 0x0A
  · obtain ⟨i, hi⟩ := decodeHost_defined hdef
    have hnot : ¬ (opcodeOf w = 0 ∨ 0x0B ≤ (opcodeOf w).toNat) := by
      rintro (h | h)
      · simp [h] at hdef
      · omega
    exact ⟨iff_of_false (by simp [hi]) hnot, iff_of_true ⟨i, hi⟩ hdef⟩
  · have hres : opcodeOf w = 0 ∨ 0x0B ≤ (opcodeOf w).toNat := by
      by_cases h : 0x0B ≤ (opcodeOf w).toNat
      · exact .inr h
      · exact .inl (BitVec.eq_of_toNat_eq (show (opcodeOf w).toNat = 0 by omega))
    have herr := decodeHost_reserved hres
    exact ⟨iff_of_true herr hres, iff_of_false (by simp [herr]) hdef⟩

end Sys2Proof
end

section
/-! ## Command frames (R116, R119, R134)

A frame is the framer's own of its fields, so decoding is a comparison of fields, and the generic frame is well formed
exactly where it is none of the six named ones. -/

namespace Sys2Proof

/-- The generic frames that are not well formed are the six named frames (R119). -/
theorem isNamedFrame_iff (c : Config) (idx : BitVec 6) (arg : Word) (chk : Byte) :
    isNamedFrame c idx arg (noStop c chk) = true ↔
      frameWord c idx arg chk = cmd0Frame c ∨ frameWord c idx arg chk = cmd8Frame c ∨
        frameWord c idx arg chk = cmd55Frame c ∨ frameWord c idx arg chk = acmd41Frame c ∨
        frameWord c idx arg chk = cmd58Frame c ∨ frameWord c idx arg chk = cmd17Frame c arg := by
  simp [isNamedFrame, cmd0Frame, cmd8Frame, cmd55Frame, acmd41Frame, cmd58Frame, cmd17Frame, frameWord_inj, or_assoc,
    and_assoc]

theorem noStop_and_stop (c : Config) (chk : Byte) : noStop c chk &&& c.stopMask = 0 := by
  unfold noStop; ext i hi; simp

/-- A well-formed frame instruction is what its frame decodes to (R116, R119). -/
theorem decodeFrame_encode (c : Config) (i : Instr) (f : BitVec 48) (hwf : i.wellFormed c = true)
    (h : encode c i = .frame f) : decodeFrame c f = .ok i := by
  cases i with
  | sdframe idx arg chk =>
    cases h
    obtain ⟨hstop, hnamed⟩ : chk &&& c.stopMask = 0 ∧ isNamedFrame c idx arg chk = false := by
      simpa [Instr.wellFormed] using hwf
    have hchk := noStop_of_disjoint c chk hstop
    have hother := isNamedFrame_iff c idx arg chk
    rw [hchk, hnamed] at hother
    simp only [Bool.false_eq_true, false_iff, not_or] at hother
    obtain ⟨h0, h8, h55, h41, h58, h17⟩ := hother
    simp only [decodeFrame, frameWord_marker, frameByte_five, checksumByte_stop, frameWord_argument, frameWord_index,
      noStop_checksumByte, hchk, h0, h8, h55, h41, h58, h17, ne_eq, not_true_eq_false, if_false]
  | cmd0 | cmd8 | cmd55 | acmd41 | cmd58 | cmd17 s =>
    cases h
    simp [decodeFrame, cmd0Frame, cmd8Frame, cmd55Frame, acmd41Frame, cmd58Frame, cmd17Frame, frameWord_marker,
      frameByte_five, checksumByte_stop, frameWord_argument, frameWord_inj]
  | init | sendcmd _ _ _ | rdblk | mount | c2s | norm | rdfile | decr1 | decr3 | decr7 => cases h

/-- What a frame decodes to is well formed: a generic frame is reached only past the six named ones. -/
theorem wellFormed_of_decodeFrame (c : Config) (f : BitVec 48) (i : Instr) (h : decodeFrame c f = .ok i) :
    i.wellFormed c = true := by
  unfold decodeFrame at h
  split at h
  · cases h
  rename_i hmark
  split at h
  · cases h
  rename_i hstop
  iterate 6
    split at h
    · cases h; rfl
  rename_i h0 h8 h55 h41 h58 h17
  cases h
  have hf := frameWord_fields c f (not_not.mp hmark) (not_not.mp hstop)
  have hnamed : isNamedFrame c (f.extractLsb' 40 6) (f.extractLsb' 8 32) (noStop c (frameByte f 5)) = false := by
    rw [← noStop_noStop, Bool.eq_false_iff, ne_eq, isNamedFrame_iff, hf]
    simp only [h0, h8, h55, h41, h58, h17, or_self, not_false_eq_true]
  simp [Instr.wellFormed, noStop_and_stop, hnamed]

/-- What a frame decodes to is a frame instruction. -/
theorem not_isHostOp_of_encode_frame {c : Config} {i : Instr} {f : BitVec 48} (h : encode c i = .frame f) :
    Machine.isHostOp i = false := by
  cases i with
  | init | sendcmd _ _ _ | rdblk | mount | c2s | norm | rdfile | decr1 | decr3 | decr7 => cases h
  | cmd0 | cmd8 | cmd55 | acmd41 | cmd58 | cmd17 _ | sdframe _ _ _ => rfl

/-- Settles O1: each layer's decoder undoes the encoder. -/
theorem decodeEncodeAgree : Obligations.DecodeEncodeAgree := by
  unfold Obligations.DecodeEncodeAgree
  intro c i hwf
  cases henc : encode c i with
  | host w => exact decodeHost_encode c i w henc
  | frame f => exact decodeFrame_encode c i f hwf henc

/-- Settles O2: a frame that decodes is the framer's own of its fields, and they decide which instruction it is. -/
theorem decodedFrameReencodes : Obligations.DecodedFrameReencodes := by
  unfold Obligations.DecodedFrameReencodes
  intro c f i h
  have henc := encode_of_decodeFrame c f i h
  exact ⟨henc, wellFormed_of_decodeFrame c f i h, not_isHostOp_of_encode_frame henc⟩

/-- Settles O3: each word and each frame is the encoding of its instruction, which decoding undoes. -/
theorem specWordsDecode : Obligations.SpecWordsDecode := by
  unfold Obligations.SpecWordsDecode
  refine ⟨?_, ?_, ?_, ?_, ?_, ?_, ?_, ?_⟩
  iterate 5 exact decodeHost_encode Config.default _ _ rfl
  all_goals exact decodeFrame_encode Config.default _ _ rfl rfl

/-- Settles O8: the framer's bytes, evaluated at the default parameters. -/
theorem defaultFrames : Obligations.DefaultFrames := by
  unfold Obligations.DefaultFrames
  exact ⟨rfl, rfl, rfl, rfl, rfl, rfl⟩

end Sys2Proof
end

section
/-! ## What a pseudo-instruction issues (R131, R132, R286) -/

namespace Sys2Proof.Machine

/-- The pseudo-instruction `p` issues operation `i` with operand `a` (R132). -/
def Issues (p : Pseudo) (i : Instr) (a : Word) : Prop :=
  (∃ idx rtype chk, p = .sendcmd idx a rtype chk ∧ i = .sendcmd idx rtype chk) ∨ (p = .rdblk a ∧ i = .rdblk) ∨
    (p = .c2s a ∧ i = .c2s) ∨ (p = .decr1 a ∧ i = .decr1) ∨ (p = .decr3 a ∧ i = .decr3) ∨ (p = .decr7 a ∧ i = .decr7)

/-- Such a pseudo-instruction is a write of its operand to ARG, then of its operation's word to CMD (R132). -/
theorem Issues.expand_eq {p : Pseudo} {i : Instr} {a : Word} (h : Issues p i a) :
    ∃ w, expand p = [.write 0x02 a, .write 0x00 w] ∧ decodeHost w = .ok i := by
  rcases h with ⟨idx, rtype, chk, rfl, rfl⟩ | ⟨rfl, rfl⟩ | ⟨rfl, rfl⟩ | ⟨rfl, rfl⟩ | ⟨rfl, rfl⟩ | ⟨rfl, rfl⟩
  all_goals exact ⟨_, rfl, decodeHost_encode Config.default _ _ rfl⟩

/-- Settles O43: ARG is written in the first step, and in the second the idle block accepts the word. -/
theorem pseudoInstructionsIssue : Obligations.PseudoInstructionsIssue := by
  unfold Obligations.PseudoInstructionsIssue
  intro s p i a ha hidle hm (hissues : Issues p i a)
  obtain ⟨w, hexpand, hdec⟩ := hissues.expand_eq
  have harg := step_of_moves_write s 0x02 a [.write 0x00 w] ha (hm.trans hexpand)
  have hcmd := step_of_moves_write { s with arg := a, moves := [.write 0x00 w] } 0x00 w [] ha rfl
  have haccept : writeCmd w { s with arg := a, moves := [] } = accept w { s with arg := a, moves := [] } :=
    if_neg (by simp [hidle])
  exact ⟨_, _, harg, rfl, hcmd.trans (congrArg _ haccept), rfl, rfl, rfl, rfl, hdec⟩

end Sys2Proof.Machine
end

section
/-! ## Sending a frame: SENDCMD and the transaction bracket (R112, R165, R166, R190) -/

namespace Sys2Proof.Machine

/-- Inside a transaction a frame instruction takes the transaction's next step, with its own bytes (R45). -/
theorem exec_frame_underway {i : Instr} {f : BitVec 48} {s : State} (h : encode s.cfg i = .frame f)
    (hph : s.txn.phase ≠ .complete) :
    exec i s = .next (transactionStep { s with txn := { s.txn with frame := f } }) := by
  rw [exec_frame i s f h, frameStep, if_neg hph]

/-- Settles O31: the transaction's own steps at the four positions of the bracket. -/
theorem frameBracket : Obligations.FrameBracket := by
  unfold Obligations.FrameBracket
  intro i f s henc
  refine ⟨fun hph => ?_, fun hph => ?_, fun hph => ?_, fun hph => ?_⟩
  · rw [exec_frame i s f henc, frameStep, if_pos hph]; rfl
  · exact (exec_frame_underway henc (by simp [hph])).trans (congrArg _ (transactionStep_selected _ hph))
  · exact (exec_frame_underway henc (by simp [hph])).trans (congrArg _ (transactionStep_settled _ hph))
  · exact (exec_frame_underway henc (by simp [hph])).trans (congrArg _ (transactionStep_deselected _ hph))

theorem resumeSendcmd_start {rtype : BitVec 2} {k : RespKind} (h : kindOf rtype = some k) (idx : BitVec 6) (chk : Byte)
    (s : State) :
    resumeSendcmd idx rtype chk .start s = selectedFor .sendcmd (frameWord s.cfg idx s.latch.arg chk) k s := by
  simp only [resumeSendcmd, h]; rfl

theorem exec_sendcmd_resume (idx : BitVec 6) (rtype : BitVec 2) (chk : Byte) {s : State}
    (hph : s.txn.phase = .complete) :
    exec (.sendcmd idx rtype chk) s = .next (resumeSendcmd idx rtype chk s.point s) := exec_resume _ s rfl hph

/-- Settles O29: RTYPE alone says what the start does; after the bracket the response is not looked at. -/
theorem sendcmdSendsAndCompletes : Obligations.SendcmdSendsAndCompletes := by
  unfold Obligations.SendcmdSendsAndCompletes
  refine ⟨fun s idx rtype chk hph hp => ?_, fun s idx rtype chk hph hp => ?_⟩
  · rw [exec_sendcmd_resume idx rtype chk hph, hp]
    refine ⟨?_, ?_, ?_, ?_⟩
    iterate 3 rintro rfl; rw [resumeSendcmd_start rfl]
    rintro rfl; rfl
  · rw [exec_sendcmd_resume idx rtype chk hph, hp]; rfl

end Sys2Proof.Machine
end

section
/-! ## RDFILE's scan of a directory sector (R240-R246)

Entries that are neither terminator nor match are passed over, so the first that is one of the two decides. -/

namespace Sys2Proof.Machine

/-! ### The scan -/

/-- The comparison of names is byte by byte (R127, R245). -/
theorem entryName_eq_iff (s : State) (o : Nat) {target : List Byte} (hlen : target.length = 11) :
    s.entryName o = target ↔ ∀ k < 11, s.sbByte (o + k) = target.getD k 0 := by
  constructor
  · rintro rfl k hk
    simp [State.entryName, hk]
  · intro h
    refine List.ext_getElem (by simp [State.entryName, hlen]) fun k _ hk => ?_
    rw [← List.getD_eq_getElem target 0 hk, ← h k (hlen ▸ hk)]
    simp [State.entryName]

theorem isMatch_iff (s : State) {target : List Byte} (hlen : target.length = 11) (e : Nat) :
    isMatch s target e ↔
      (attrOk s.cfg.attrMatch (s.sbByte (32 * e + 11)) && s.entryName (32 * e) == target) = true := by
  rw [Bool.and_eq_true, beq_iff_eq, entryName_eq_iff s _ hlen, isMatch]

theorem scanEntries_terminator {s : State} {e : Nat} (h : isTerminator s e) (target : List Byte) (es : List Nat) :
    scanEntries s target (e :: es) = .terminator := if_pos h

theorem scanEntries_cons_of_not_terminator {s : State} {e : Nat} (h : ¬ isTerminator s e) (target : List Byte)
    (es : List Nat) :
    scanEntries s target (e :: es) =
      if attrOk s.cfg.attrMatch (s.sbByte (32 * e + 11)) && s.entryName (32 * e) == target then
        .found (s.entryCluster (32 * e)) (s.entrySize (32 * e))
      else scanEntries s target es := if_neg h

theorem scanEntries_match {s : State} {target : List Byte} (hlen : target.length = 11) {e : Nat}
    (hterm : ¬ isTerminator s e) (hmatch : isMatch s target e) (es : List Nat) :
    scanEntries s target (e :: es) = .found (s.entryCluster (32 * e)) (s.entrySize (32 * e)) := by
  rw [scanEntries_cons_of_not_terminator hterm, if_pos ((isMatch_iff s hlen e).mp hmatch)]

/-- Entries that are neither terminator nor match are passed over (R240). -/
theorem scanEntries_append {s : State} {target : List Byte} (hlen : target.length = 11) (fs : List Nat) :
    ∀ es : List Nat, (∀ j ∈ es, ¬ isTerminator s j ∧ ¬ isMatch s target j) →
      scanEntries s target (es ++ fs) = scanEntries s target fs
  | [], _ => rfl
  | e :: es, h => by
    obtain ⟨⟨hterm, hmatch⟩, hrest⟩ := List.forall_mem_cons.mp h
    rw [List.cons_append, scanEntries_cons_of_not_terminator hterm, if_neg (mt (isMatch_iff s hlen e).mpr hmatch),
      scanEntries_append hlen fs es hrest]

/-- The scan of a sector comes to entry `e` when none before it decides. -/
theorem scanSector_reaches {s : State} {target : List Byte} (hlen : target.length = 11) {e : Nat} (he : e < 16)
    (h : ∀ j < e, ¬ isTerminator s j ∧ ¬ isMatch s target j) :
    ∃ es, scanSector s target = scanEntries s target (e :: es) := by
  obtain ⟨n, hn⟩ : ∃ n, 16 = e + (n + 1) := ⟨15 - e, by omega⟩
  refine ⟨(List.map Nat.succ (List.range n)).map (e + ·), ?_⟩
  rw [scanSector, hn, List.range_add, scanEntries_append hlen _ _ fun j hj => h j (List.mem_range.mp hj),
    List.range_succ_eq_map]
  rfl

theorem scanSector_exhausted {s : State} {target : List Byte} (hlen : target.length = 11)
    (h : ∀ j < 16, ¬ isTerminator s j ∧ ¬ isMatch s target j) : scanSector s target = .exhausted := by
  have hscan := scanEntries_append hlen [] (List.range 16) fun j hj => h j (List.mem_range.mp hj)
  rwa [List.append_nil] at hscan

/-! ### The numbers of a directory entry -/

theorem toNat_append_eq_add {m n : Nat} (x : BitVec m) (y : BitVec n) :
    (x ++ y).toNat = 2 ^ n * x.toNat + y.toNat := by
  rw [BitVec.toNat_append, ← Nat.shiftLeft_add_eq_or_of_lt y.isLt, Nat.shiftLeft_eq, Nat.mul_comm]

theorem le16_toNat (s : State) (i : Nat) :
    (s.le16 i).toNat = (s.sbByte i).toNat + 2 ^ 8 * (s.sbByte (i + 1)).toNat := by
  rw [State.le16, toNat_append_eq_add, Nat.add_comm]

theorem le32_toNat (s : State) (i : Nat) :
    (s.le32 i).toNat = (s.sbByte i).toNat + 2 ^ 8 * (s.sbByte (i + 1)).toNat + 2 ^ 16 * (s.sbByte (i + 2)).toNat +
      2 ^ 24 * (s.sbByte (i + 3)).toNat := by
  simp only [State.le32, toNat_append_eq_add]
  omega

/-- The starting cluster: the low half at offset 26, the high half at offset 20 (R129). -/
theorem entryCluster_toNat (s : State) (o : Nat) :
    (s.entryCluster o).toNat = (s.sbByte (o + 26)).toNat + 2 ^ 8 * (s.sbByte (o + 27)).toNat +
      2 ^ 16 * (s.sbByte (o + 20)).toNat + 2 ^ 24 * (s.sbByte (o + 21)).toNat := by
  have hlow : (s.le16 (o + 26)).toNat = (s.sbByte (o + 26)).toNat + 2 ^ 8 * (s.sbByte (o + 27)).toNat :=
    le16_toNat s (o + 26)
  have hhigh : (s.le16 (o + 20)).toNat = (s.sbByte (o + 20)).toNat + 2 ^ 8 * (s.sbByte (o + 21)).toNat :=
    le16_toNat s (o + 20)
  rw [State.entryCluster, toNat_append_eq_add, hlow, hhigh]
  omega

/-- The file size: four bytes from offset 28 (R127). -/
theorem entrySize_toNat (s : State) (o : Nat) :
    (s.entrySize o).toNat = (s.sbByte (o + 28)).toNat + 2 ^ 8 * (s.sbByte (o + 29)).toNat +
      2 ^ 16 * (s.sbByte (o + 30)).toNat + 2 ^ 24 * (s.sbByte (o + 31)).toNat :=
  le32_toNat s (o + 28)

/-! ### RDFILE after a directory sector -/

theorem resumeRdfile_failedRead {s : State} (htok : s.txn.tok ≠ dataStart) (k : Nat) (target : List Byte) (s0 : Word) :
    resumeRdfile (.rdfile (.directory k target s0)) s = endedWith 0x03 s := if_pos htok

/-! After a successful read the scan of the sector decides (R240). -/

theorem resumeRdfile_terminator {s : State} {target : List Byte} (htok : s.txn.tok = dataStart)
    (hscan : scanSector s target = .terminator) (k : Nat) (s0 : Word) :
    resumeRdfile (.rdfile (.directory k target s0)) s = endedWith 0x07 s := by
  rw [resumeRdfile, if_neg (not_not.mpr htok), hscan]; rfl

theorem resumeRdfile_found {s : State} {target : List Byte} {c z : Word} (htok : s.txn.tok = dataStart)
    (hscan : scanSector s target = .found c z) (k : Nat) (s0 : Word) :
    resumeRdfile (.rdfile (.directory k target s0)) s = blockRead (.rdfile (.file c z)) (s.sectorOf c) s := by
  rw [resumeRdfile, if_neg (not_not.mpr htok), hscan]

theorem resumeRdfile_exhausted {s : State} {target : List Byte} (htok : s.txn.tok = dataStart)
    (hscan : scanSector s target = .exhausted) (k : Nat) (s0 : Word) :
    resumeRdfile (.rdfile (.directory k target s0)) s = readDirectory (k + 1) target s0 s := by
  rw [resumeRdfile, if_neg (not_not.mpr htok), hscan]

/-- Inside the scan extent the directory's next sector is read (R241). -/
theorem readDirectory_of_lt {k : Nat} {s : State} (hk : k < s.cfg.rootScanSectors) (target : List Byte) (s0 : Word) :
    readDirectory k target s0 s = blockRead (.rdfile (.directory k target s0)) (s0 + BitVec.ofNat 32 k) s := if_pos hk

theorem readDirectory_of_le {k : Nat} {s : State} (hk : s.cfg.rootScanSectors ≤ k) (target : List Byte) (s0 : Word) :
    readDirectory k target s0 s = endedWith 0x07 s := if_neg (not_lt.mpr hk)

/-- Settles O23: the first deciding entry of the sector, or the scan extent where there is none. -/
theorem rdfileScans : Obligations.RdfileScans := by
  unfold Obligations.RdfileScans
  intro s k target s0 hph hlen hp
  have hexec : exec .rdfile s = .next (resumeRdfile (.rdfile (.directory k target s0)) s) := by
    rw [← hp]; exact exec_resume .rdfile s rfl hph
  rw [hexec]
  refine ⟨fun htok => ?_, fun htok => ⟨fun e he hbefore => ?_, fun hnone => ?_⟩⟩
  · rw [resumeRdfile_failedRead htok]
  · obtain ⟨es, hscan⟩ := scanSector_reaches hlen he hbefore
    refine ⟨fun hterm => ?_, fun hterm hmatch => ?_⟩
    · rw [resumeRdfile_terminator htok (hscan.trans (scanEntries_terminator hterm target es))]
    · refine ⟨_, _, entryCluster_toNat s (32 * e), entrySize_toNat s (32 * e), ?_⟩
      rw [resumeRdfile_found htok (hscan.trans (scanEntries_match hlen hterm hmatch es)), blockRead_eq_selectedFor]
      rfl
  · rw [resumeRdfile_exhausted htok (scanSector_exhausted hlen hnone)]
    refine ⟨fun hk => ?_, fun hk => ?_⟩
    · rw [readDirectory_of_lt hk, blockRead_eq_selectedFor]
    · rw [readDirectory_of_le hk]

end Sys2Proof.Machine
end

/-! # Proofs: the card protocol (40_card_protocol.md) -/

section
/-! ## The framer (R150, R151) -/

namespace Sys2Proof

/-- Every frame an instruction encodes to is made by the framer (R116, R119). -/
theorem exists_frameWord_of_encode {c : Config} {i : Instr} {f : BitVec 48} (h : encode c i = .frame f) :
    ∃ idx arg chk, f = frameWord c idx arg chk := by
  cases i with
  | cmd0 | cmd8 | cmd55 | acmd41 | cmd58 | cmd17 _ | sdframe _ _ _ => cases h; exact ⟨_, _, _, rfl⟩
  | init | sendcmd _ _ _ | rdblk | mount | c2s | norm | rdfile | decr1 | decr3 | decr7 => cases h

theorem frameByte_zero (c : Config) (idx : BitVec 6) (arg : Word) (chk : Byte) :
    frameByte (frameWord c idx arg chk) 0 = 0x40 ||| idx.setWidth 8 := by
  unfold frameByte frameWord; ext i hi; simp; interval_cases i <;> grind

/-- Bytes F1 to F4 are those of the argument, the highest first (R116). -/
theorem frameByte_argument (c : Config) (idx : BitVec 6) (arg : Word) (chk : Byte) {k : Nat} (hk : k < 4) :
    frameByte (frameWord c idx arg chk) (k + 1) = arg.extractLsb' (8 * (3 - k)) 8 := by
  unfold frameByte frameWord; ext i hi; simp; interval_cases k <;> grind

/-- The stop bit is set whatever the checksum operand says of it, and no other bit is touched (R116). -/
theorem checksumByte_eq_or (c : Config) (chk : Byte) : checksumByte c chk = chk ||| c.stopMask := by
  unfold checksumByte; ext i hi; simp; grind

/-- Settles O6: F0 from the marker and the index, F1 to F4 from the argument, F5 from the checksum operand. -/
theorem framerBytes : Obligations.FramerBytes := by
  unfold Obligations.FramerBytes
  intro c idx arg chk
  have harg (k : Nat) (hk : k < 4) := frameByte_argument c idx arg chk hk
  rw [frameBytes, frameByte_zero, harg 0 (by decide), harg 1 (by decide), harg 2 (by decide), harg 3 (by decide),
    frameByte_five, checksumByte_eq_or]

theorem stop_frameByte_five (c : Config) (idx : BitVec 6) (arg : Word) (chk : Byte) :
    frameByte (frameWord c idx arg chk) 5 &&& c.stopMask = c.stopMask := by
  rw [frameByte_five, checksumByte_stop]

/-- Settles O7: the framer makes every frame there is, and it sets the stop bit. -/
theorem stopMarkerOnEveryFrame : Obligations.StopMarkerOnEveryFrame := by
  unfold Obligations.StopMarkerOnEveryFrame
  refine ⟨stop_frameByte_five, fun c i f henc => ?_, fun idx arg => ?_⟩
  · obtain ⟨idx, arg, chk, rfl⟩ := exists_frameWord_of_encode henc
    exact stop_frameByte_five c idx arg chk
  · rw [frameByte_five]; rfl

end Sys2Proof
end

section
/-! ## The response read, position by position (R152, R161-R164, R171-R174)

One rule for each way a loop of the response read goes on or ends; the statements about single steps and the runs of
whole transactions below are both read off them. -/

namespace Sys2Proof.Machine

/-- `s` with `f` as the frame it sends: how a frame instruction sees the transaction under way (R45). -/
def State.sending (f : BitVec 48) (s : State) : State := { s with txn := { s.txn with frame := f } }

/-- `s` with ReadR1's result `r` taken over, no trailing word and no token yet (R161, R165). -/
def State.withR1 (r : Byte) (s : State) : State :=
  { s with r1Last := r, txn := { s.txn with r1 := r, word := none, tok := 0xFF } }

/-- `s` with RESP and the trailing word `w` (R163). -/
def State.withResp (w : Word) (s : State) : State := { s with resp := w, txn := { s.txn with word := some w } }

/-- `s` with TOKEN_LAST and the token `tok` (R171). -/
def State.withToken (tok : Byte) (s : State) : State := { s with tokenLast := tok, txn := { s.txn with tok := tok } }

/-- Inside a transaction a frame instruction takes the transaction's next step, sending its own frame. -/
theorem exec_sending {i : Instr} {f : BitVec 48} {s : State} (henc : encode s.cfg i = .frame f)
    (hph : s.txn.phase ≠ .complete) : exec i s = .next (transactionStep (s.sending f)) :=
  exec_frame_underway henc hph

/-! ### ReadR1 (R161) -/

theorem pollR1_again {k : Nat} {r : Byte} {s : State} (hr : r = 0xFF) (hk : k < s.cfg.r1PollMax) :
    pollR1 k r s = (exchange 0xFF s).atPhase (.r1Poll (k + 1) s.nextIn) :=
  if_neg (by simp [hr, hk])

theorem pollR1_stop {k : Nat} {r : Byte} {s : State} (h : r ≠ 0xFF ∨ s.cfg.r1PollMax ≤ k) :
    pollR1 k r s = afterR1 r s := if_pos h

/-! ### After the R1 byte, by response kind (R160, R161, R163, R171) -/

theorem isErr_eq_true {r : Byte} (h : 1 < r.toNat) : isErr r = true := decide_eq_true h

theorem isErr_eq_false {r : Byte} (h : r.toNat ≤ 1) : isErr r = false := decide_eq_false (not_lt.mpr h)

theorem afterR1_of_r1 {s : State} (hkind : s.txn.kind = .r1) (r : Byte) : afterR1 r s = settle (s.withR1 r) := by
  simp only [afterR1, State.withR1, hkind]

theorem afterR1_of_r37 {s : State} (hkind : s.txn.kind = .r3 ∨ s.txn.kind = .r7) (r : Byte) :
    afterR1 r s = if isErr r then settle (s.withR1 r) else trailingByte [] (s.withR1 r) := by
  rcases hkind with hkind | hkind <;> simp only [afterR1, State.withR1, hkind]

theorem afterR1_of_data {s : State} (hkind : s.txn.kind = .data) (r : Byte) :
    afterR1 r s = if isErr r then endData 0xFF (s.withR1 r) else pollToken 0 0xFF (s.withR1 r) := by
  simp only [afterR1, State.withR1, hkind]

/-! ### ReadR37 (R163) -/

theorem readTrailing_more {got : List Byte} (h : got.length < 4) (s : State) :
    readTrailing got s = trailingByte got s := if_pos h

/-- RESP and the trailing word are the four bytes in wire order (R122, R163). -/
theorem readTrailing_four (b1 b2 b3 b4 : Byte) (s : State) :
    readTrailing [b1, b2, b3, b4] s = settle (s.withResp (b1 ++ b2 ++ b3 ++ b4)) := rfl

/-! ### ReadData and DataPhase (R171, R172) -/

theorem pollToken_again {p : Nat} {b : Byte} {s : State} (hb : b = 0xFF) (hp : p < s.cfg.tokenPollMax) :
    pollToken p b s = (exchange 0xFF s).atPhase (.tokenPoll (p + 1) s.nextIn) :=
  if_neg (by simp [hb, hp])

theorem endData_eq_settle (tok : Byte) (s : State) : endData tok s = settle (s.withToken tok) := rfl

theorem pollToken_end {p : Nat} {b : Byte} {s : State} (h : b ≠ 0xFF ∨ s.cfg.tokenPollMax ≤ p) (hb : b ≠ 0xFE) :
    pollToken p b s = endData b s := (if_pos h).trans (if_neg hb)

theorem pollToken_dataStart (p : Nat) (s : State) :
    pollToken p 0xFE s = dataPhase 0 { s with txn := { s.txn with tok := 0xFE } } :=
  (if_pos (.inl (by decide))).trans (if_pos rfl)

theorem dataPhase_more {k : Nat} (h : k < 512) (s : State) : dataPhase k s = dataByte k s := if_pos h

theorem dataPhase_done (s : State) : dataPhase 512 s = (fill s).atPhase .crc1 := if_neg (by decide)

end Sys2Proof.Machine
end

section
/-! ## Single steps of a frame (R152, R161-R164, R171-R174) -/

namespace Sys2Proof.Machine

theorem lt_six_of_frameBytes_getElem? {f : BitVec 48} {k : Nat} {b : Byte} (h : (frameBytes f)[k]? = some b) : k < 6 :=
  (List.getElem?_eq_some_iff.mp h).1

theorem frameBytes_getElem? {f : BitVec 48} {k : Nat} (hk : k < 6) : (frameBytes f)[k]? = some (frameByte f k) := by
  interval_cases k <;> rfl

/-- Settles O32: the byte at the transaction's position goes out, and the sixth ends the frame. -/
theorem frameBytesSentInOrder : Obligations.FrameBytesSentInOrder := by
  unfold Obligations.FrameBytesSentInOrder
  intro i f s k b henc hph hbyte
  have hk := lt_six_of_frameBytes_getElem? hbyte
  obtain rfl : frameByte f k = b := Option.some.inj ((frameBytes_getElem? hk).symm.trans hbyte)
  rw [exec_sending henc (by simp [hph]), transactionStep_frame (s.sending f) k hph,
    show (if k < 5 then Phase.frame (k + 1) else .r1Poll 0 0xFF) = if k = 5 then .r1Poll 0 0xFF else .frame (k + 1) by
      grind]
  rfl

theorem exec_r1Poll {i : Instr} {f : BitVec 48} {s : State} {k : Nat} {r : Byte} (henc : encode s.cfg i = .frame f)
    (hph : s.txn.phase = .r1Poll k r) : exec i s = .next (pollR1 k r (s.sending f)) := by
  rw [exec_sending henc (by simp [hph]), transactionStep_r1Poll (s.sending f) k r hph]

/-- Settles O33: the poll goes on exactly while its guard holds, and with kind R1 nothing is read after it. -/
theorem readR1Polls : Obligations.ReadR1Polls := by
  unfold Obligations.ReadR1Polls
  intro i f s k r henc hph
  rw [exec_r1Poll henc hph]
  refine ⟨fun hr hk => ?_, fun hstop hkind => ?_⟩
  · rw [pollR1_again (s := s.sending f) hr hk]; rfl
  · rw [pollR1_stop (s := s.sending f) hstop, afterR1_of_r1 (s := s.sending f) hkind]; rfl

/-- Settles O34: the error test stands between the R1 byte and the first trailing byte, the count after each. -/
theorem readR37Reads : Obligations.ReadR37Reads := by
  unfold Obligations.ReadR37Reads
  intro i f s henc
  have htrailing {got : List Byte} (hph : s.txn.phase = .trailing got) :
      exec i s = .next (readTrailing got (s.sending f)) := by
    rw [exec_sending henc (by simp [hph]), transactionStep_trailing (s.sending f) got hph]
  refine ⟨fun k r hph hstop hkind => ?_, fun got hph hlen => ?_, fun b1 b2 b3 b4 hph => ?_⟩
  · rw [exec_r1Poll henc hph, pollR1_stop (s := s.sending f) hstop, afterR1_of_r37 (s := s.sending f) hkind]
    refine ⟨fun herr => ?_, fun hok => ?_⟩
    · rw [isErr_eq_true herr]; rfl
    · rw [isErr_eq_false hok]; rfl
  · rw [htrailing hph, readTrailing_more hlen]; rfl
  · rw [htrailing hph, readTrailing_four]; rfl

/-- Settles O35: the error test stands between the R1 byte and the first token poll; the poll then ends as its guard
says. -/
theorem readDataPollsToken : Obligations.ReadDataPollsToken := by
  unfold Obligations.ReadDataPollsToken
  intro i f s henc
  refine ⟨fun k r hph hstop hkind => ?_, fun p b hph => ?_⟩
  · rw [exec_r1Poll henc hph, pollR1_stop (s := s.sending f) hstop, afterR1_of_data (s := s.sending f) hkind]
    refine ⟨fun herr => ?_, fun hok hpolls => ?_⟩
    · rw [isErr_eq_true herr]; rfl
    · rw [isErr_eq_false hok, if_neg (by decide), pollToken_again (s := (s.sending f).withR1 r) rfl hpolls]; rfl
  · rw [exec_sending henc (by simp [hph]), transactionStep_tokenPoll (s.sending f) p b hph]
    refine ⟨fun hb hp => ?_, fun hend hb => ?_⟩
    · rw [pollToken_again (s := s.sending f) hb hp]; rfl
    · rw [pollToken_end (s := s.sending f) hend hb]; rfl

/-- Settles O36: the data-start token is itself the start of the data phase, whose count alone says what comes next. -/
theorem dataPhaseStores : Obligations.DataPhaseStores := by
  unfold Obligations.DataPhaseStores
  intro i f s henc
  have hexec (hph : s.txn.phase ≠ .complete) := exec_sending henc hph
  refine ⟨fun p hph => ?_, fun k hph hk => ?_, fun hph => ?_, fun hph => ?_, fun hph => ?_⟩
  · rw [hexec (by simp [hph]), transactionStep_tokenPoll (s.sending f) p 0xFE hph, pollToken_dataStart]; rfl
  · rw [hexec (by simp [hph]), transactionStep_data (s.sending f) k hph, dataPhase_more hk]; rfl
  · rw [hexec (by simp [hph]), transactionStep_data (s.sending f) 512 hph, dataPhase_done]; rfl
  · rw [hexec (by simp [hph]), transactionStep_crc1 (s.sending f) hph]; rfl
  · rw [hexec (by simp [hph]), transactionStep_crc2 (s.sending f) hph]; rfl

end Sys2Proof.Machine
end

section
/-! ## Runs of a frame instruction: the parts of a transaction (R152, R161, R163, R165, R168, R171, R172)

Each part of the bracket as a run from one position to a later one, for a card whose answers are laid down. -/

namespace Sys2Proof.Machine

/-! ### Runs -/

theorem execRun_succ {i : Instr} {s t : State} (h : exec i s = .next t) (n : Nat) :
    execRun i (n + 1) s = execRun i n t := by
  simp only [execRun, h]

/-- A run of `m + n` steps is a run of `m` and then one of `n`. -/
theorem execRun_add {i : Instr} {m : Nat} {s t : State} (h : execRun i m s = .next t) (n : Nat) :
    execRun i (m + n) s = execRun i n t := by
  induction m generalizing s with
  | zero => cases h; rw [Nat.zero_add]
  | succ m ih =>
    cases hstep : exec i s with
    | next u =>
      rw [execRun_succ hstep] at h
      rw [Nat.succ_add, execRun_succ hstep, ih h]
    | fault r | refused r => simp only [execRun, hstep, reduceCtorEq] at h

/-- The transaction under way sends the frame of instruction `i`. -/
def Sends (i : Instr) (s : State) : Prop := encode s.cfg i = .frame s.txn.frame

theorem Sends.execRun_step {i : Instr} {s t : State} (hs : Sends i s) (hstep : transactionStep s = t)
    (hph : s.txn.phase ≠ .complete) (n : Nat) : execRun i (n + 1) s = execRun i n t :=
  execRun_succ ((exec_sending hs hph).trans (congrArg _ hstep)) n

/-- Two states that the transaction's next step takes to the same state run alike. -/
theorem Sends.execRun_congr {i : Instr} {s u : State} (hs : Sends i s) (hu : Sends i u) (hps : s.txn.phase ≠ .complete)
    (hpu : u.txn.phase ≠ .complete) (h : transactionStep s = transactionStep u) (n : Nat) :
    execRun i (n + 1) s = execRun i (n + 1) u := by
  rw [hs.execRun_step h hps, hu.execRun_step rfl hpu]

/-! ### Progress with the card's answers laid down (R22) -/

/-- `s` further on in its transaction, at position `ph`, after the events `evs`, with `rest` still to be answered. -/
def State.clocked (ph : Phase) (evs : List Event) (rest : List Byte) (s : State) : State :=
  { s with txn := { s.txn with phase := ph }, cardIn := rest, history := s.history ++ evs }

theorem Sends.clocked {i : Instr} {s : State} (hs : Sends i s) (ph : Phase) (evs : List Event) (rest : List Byte) :
    Sends i (s.clocked ph evs rest) := hs

theorem clocked_clocked (ph ph' : Phase) (evs evs' : List Event) (rest rest' : List Byte) (s : State) :
    (s.clocked ph evs rest).clocked ph' evs' rest' = s.clocked ph' (evs ++ evs') rest' := by
  simp only [State.clocked, List.append_assoc]

theorem clocked_nil {s : State} {ph : Phase} {rest : List Byte} (hph : s.txn.phase = ph) (hin : s.cardIn = rest) :
    s.clocked ph [] rest = s := by
  subst hph hin
  simp only [State.clocked, List.append_nil]

theorem nextIn_eq {s : State} {b : Byte} {rest : List Byte} (h : s.cardIn = b :: rest) : s.nextIn = b := by
  simp only [State.nextIn, h]

/-- An exchange takes the next answer laid down and draws nothing. -/
theorem exchange_atPhase {s : State} {b : Byte} {rest : List Byte} (h : s.cardIn = b :: rest) (out : Byte)
    (ph : Phase) : (exchange out s).atPhase ph = s.clocked ph [.xchgEv out b] rest := by
  simp only [exchange, State.atPhase, State.clocked, nextIn_eq h, h, List.tail_cons, List.isEmpty_cons,
    Bool.false_eq_true, if_false]

/-- `s` with chip-select at `l`. -/
def State.withCs (l : ChipSelect) (s : State) : State := { s with cs := l }

/-- `s` with SB holding `m`. -/
def State.withSb (m : Memory) (s : State) : State := { s with sb := m }

theorem Sends.withCs {i : Instr} {s : State} (hs : Sends i s) (l : ChipSelect) : Sends i (s.withCs l) := hs

theorem Sends.withToken {i : Instr} {s : State} (hs : Sends i s) (tok : Byte) : Sends i (s.withToken tok) := hs

theorem Sends.withSb {i : Instr} {s : State} (hs : Sends i s) (m : Memory) : Sends i (s.withSb m) := hs

/-! ### The end of a transaction (R165) -/

/-- The events that close a transaction: the settle byte, `CS(DESEL)`, the trailing byte. -/
def closingEvents (z0 z1 : Byte) : List Event := [.xchgEv 0xFF z0, .csEv .desel, .xchgEv 0xFF z1]

/-- From a position whose next step settles the transaction as `u`. -/
theorem execRun_closing {i : Instr} {s u : State} {z0 z1 : Byte} {rest : List Byte} (hs : Sends i s)
    (hph : s.txn.phase ≠ .complete) (hstep : transactionStep s = settle u) (hu : Sends i u)
    (hin : u.cardIn = z0 :: z1 :: rest) :
    execRun i 3 s = .next ((u.withCs .desel).clocked .complete (closingEvents z0 z1) rest) := by
  have hsettle : transactionStep s = u.clocked .settled [.xchgEv 0xFF z0] (z1 :: rest) :=
    hstep.trans (exchange_atPhase hin _ _)
  have hdesel : transactionStep (u.clocked .settled [.xchgEv 0xFF z0] (z1 :: rest)) =
      (u.withCs .desel).clocked .deselected [.xchgEv 0xFF z0, .csEv .desel] (z1 :: rest) := by
    rw [transactionStep_settled _ rfl]
    simp only [driveCs, State.atPhase, State.clocked, State.withCs, List.append_assoc, List.singleton_append]
  have hclose : transactionStep ((u.withCs .desel).clocked .deselected [.xchgEv 0xFF z0, .csEv .desel] (z1 :: rest)) =
        (u.withCs .desel).clocked .complete (closingEvents z0 z1) rest := by
    rw [transactionStep_deselected _ rfl, fill, exchange_atPhase rfl, clocked_clocked]
    rfl
  rw [hs.execRun_step hsettle hph, (hu.clocked _ _ _).execRun_step hdesel (by nofun),
    ((hu.withCs _).clocked _ _ _).execRun_step hclose (by nofun)]
  rfl

/-! ### The beginning of a transaction (R165, R152) -/

/-- The position after the settle byte and `k` frame bytes. -/
def frameAt (k : Nat) : Phase := if k < 6 then .frame k else .r1Poll 0 0xFF

theorem transactionStep_frameAt {s : State} {k : Nat} (hk : k < 6) (hph : s.txn.phase = frameAt k) :
    transactionStep s = (exchange (frameByte s.txn.frame k) s).atPhase (frameAt (k + 1)) := by
  rw [transactionStep_frame s k (hph.trans (if_pos hk)), frameAt]
  simp only [show k + 1 < 6 ↔ k < 5 by omega]

theorem drop_frameBytes {k : Nat} (hk : k < 6) (f : BitVec 48) :
    (frameBytes f).drop k = frameByte f k :: (frameBytes f).drop (k + 1) := by
  interval_cases k <;> rfl

/-- The frame bytes from `F<k>` on, each exchanged for the card's next answer (R152). -/
theorem execRun_frameBytes {i : Instr} {rest : List Byte} (as : List Byte) :
    ∀ (k : Nat) (s : State), Sends i s → s.txn.phase = frameAt k → k + as.length ≤ 6 → s.cardIn = as ++ rest →
      execRun i as.length s = .next
        (s.clocked (frameAt (k + as.length)) (List.zipWith .xchgEv ((frameBytes s.txn.frame).drop k) as) rest) := by
  induction as with
  | nil =>
    intro k s hs hph hk hin
    rw [List.zipWith_nil_right]
    exact congrArg _ (clocked_nil hph hin).symm
  | cons a as ih =>
    intro k s hs hph hk hin
    rw [List.length_cons] at hk
    rw [List.cons_append] at hin
    have hlt : k < 6 := by omega
    have hopen : s.txn.phase ≠ .complete := by rw [hph, frameAt, if_pos hlt]; nofun
    have hstep := (transactionStep_frameAt hlt hph).trans (exchange_atPhase hin _ _)
    rw [List.length_cons, hs.execRun_step hstep hopen, ih (k + 1) _ (hs.clocked (frameAt (k + 1)) _ _) rfl
      (by omega) rfl, clocked_clocked, drop_frameBytes hlt, Nat.add_right_comm]
    rfl

/-- `s` at the beginning of the transaction that sends `f`, the card just selected (R165). -/
def State.begun (f : BitVec 48) (k : RespKind) (s : State) : State := { s with cs := .sel, txn := Txn.fresh f k }

theorem sends_begun {i : Instr} {f : BitVec 48} {s : State} (henc : encode s.cfg i = .frame f) (k : RespKind) :
    Sends i (s.begun f k) := henc

/-- `CS(SEL)`, the settle byte and the six frame bytes. -/
theorem execRun_opening {i : Instr} {f : BitVec 48} {s : State} {a0 : Byte} {as rest : List Byte}
    (henc : encode s.cfg i = .frame f) (hph : s.txn.phase = .complete) (hlen : as.length = 6)
    (hin : s.cardIn = a0 :: (as ++ rest)) :
    execRun i 8 s = .next ((s.begun f (frameKind i)).clocked (.r1Poll 0 0xFF)
      (.csEv .sel :: .xchgEv 0xFF a0 :: List.zipWith .xchgEv (frameBytes f) as) rest) := by
  have hsel : exec i s = .next ((s.begun f (frameKind i)).clocked .selected [.csEv .sel] (a0 :: (as ++ rest))) := by
    rw [exec_frame i s f henc, frameStep, if_pos hph, ← hin]
    rfl
  have hbytes := execRun_frameBytes (i := i) (rest := rest) as 0
    ((s.begun f (frameKind i)).clocked (frameAt 0) [.csEv .sel, .xchgEv 0xFF a0] (as ++ rest)) henc rfl (by omega) rfl
  rw [clocked_clocked, hlen] at hbytes
  have hfill : transactionStep
      ((s.begun f (frameKind i)).clocked .selected [.csEv .sel] (a0 :: (as ++ rest))) =
        (s.begun f (frameKind i)).clocked (frameAt 0) [.csEv .sel, .xchgEv 0xFF a0] (as ++ rest) := by
    rw [transactionStep_selected _ rfl, fill, exchange_atPhase rfl, clocked_clocked]
    rfl
  rw [execRun_succ hsel, ((sends_begun henc _).clocked _ _ _).execRun_step hfill (by nofun)]
  exact hbytes

/-! ### The polls of ReadR1 and ReadData (R161, R171) -/

/-- At the positions `ph k last` the transaction polls with 0xFF for a byte other than 0xFF, within a budget. -/
def Polls (ph : Nat → Byte → Phase) (budget : Config → Nat) : Prop :=
  ∀ (s : State) (k : Nat), s.txn.phase = ph k 0xFF → k < budget s.cfg →
    s.txn.phase ≠ .complete ∧ transactionStep s = (exchange 0xFF s).atPhase (ph (k + 1) s.nextIn)

theorem polls_r1Poll : Polls .r1Poll Config.r1PollMax := fun s k hph hk =>
  ⟨by simp [hph], (transactionStep_r1Poll s k 0xFF hph).trans (pollR1_again rfl hk)⟩

theorem polls_tokenPoll : Polls .tokenPoll Config.tokenPollMax := fun s p hph hp =>
  ⟨by simp [hph], (transactionStep_tokenPoll s p 0xFF hph).trans (pollToken_again rfl hp)⟩

/-- `j` answers 0xFF and then `r`, within the budget. -/
theorem Polls.execRun_until {ph : Nat → Byte → Phase} {budget : Config → Nat} (h : Polls ph budget) {i : Instr}
    {r : Byte} {rest : List Byte} (j : Nat) :
    ∀ (k : Nat) (s : State), Sends i s → s.txn.phase = ph k 0xFF → k + j < budget s.cfg →
      s.cardIn = List.replicate j 0xFF ++ r :: rest →
      execRun i (j + 1) s = .next
        (s.clocked (ph (k + j + 1) r) (List.replicate j (Event.xchgEv 0xFF 0xFF) ++ [Event.xchgEv 0xFF r]) rest) := by
  induction j with
  | zero =>
    intro k s hs hph hk hin
    obtain ⟨hopen, hstep⟩ := h s k hph hk
    rw [nextIn_eq hin, exchange_atPhase hin] at hstep
    rw [hs.execRun_step hstep hopen]
    rfl
  | succ j ih =>
    intro k s hs hph hk hin
    rw [List.replicate_succ, List.cons_append] at hin
    obtain ⟨hopen, hstep⟩ := h s k hph (by omega)
    rw [nextIn_eq hin, exchange_atPhase hin] at hstep
    have hleft : k + 1 + j < budget s.cfg := by omega
    rw [hs.execRun_step hstep hopen, ih (k + 1) _ (hs.clocked _ _ _) rfl hleft rfl, clocked_clocked,
      Nat.add_right_comm k 1 j]
    rfl

/-- From its beginning to the R1 byte, which comes after `j` answers 0xFF. -/
theorem execRun_untilR1 {i : Instr} {f : BitVec 48} {s : State} {a0 r : Byte} {as rest : List Byte} {j : Nat}
    (henc : encode s.cfg i = .frame f) (hph : s.txn.phase = .complete) (hlen : as.length = 6)
    (hj : j < s.cfg.r1PollMax) (hin : s.cardIn = a0 :: (as ++ (List.replicate j 0xFF ++ r :: rest))) :
    execRun i (8 + (j + 1)) s = .next ((s.begun f (frameKind i)).clocked (.r1Poll (0 + j + 1) r)
      (Event.csEv .sel :: Event.xchgEv 0xFF a0 :: List.zipWith Event.xchgEv (frameBytes f) as ++
        (List.replicate j (Event.xchgEv 0xFF 0xFF) ++ [Event.xchgEv 0xFF r])) rest) := by
  rw [execRun_add (execRun_opening henc hph hlen hin),
    polls_r1Poll.execRun_until j 0 ((s.begun f (frameKind i)).clocked _ _ _) henc rfl (by rwa [Nat.zero_add]) rfl,
    clocked_clocked]

/-! ### The response reads (R163, R171, R172)

The computation after a poll belongs to the step of the next primitive (R45), so the next loop's first turn is the same
from the end of the poll as from that loop's own head. -/

theorem transactionStep_r1_of_r1 {s : State} {k : Nat} {r : Byte} (hph : s.txn.phase = .r1Poll k r) (hr : r ≠ 0xFF)
    (hkind : s.txn.kind = .r1) : transactionStep s = settle (s.withR1 r) := by
  rw [transactionStep_r1Poll s k r hph, pollR1_stop (.inl hr), afterR1_of_r1 hkind]

theorem ne_noResp_of_le_one {r : Byte} (h : r.toNat ≤ 1) : r ≠ 0xFF := by rintro rfl; exact absurd h (by decide)

theorem transactionStep_r1_of_r37 {s : State} {k : Nat} {r : Byte} (hph : s.txn.phase = .r1Poll k r)
    (hr : r.toNat ≤ 1) (hkind : s.txn.kind = .r3 ∨ s.txn.kind = .r7) :
    transactionStep s = transactionStep ((s.withR1 r).atPhase (.trailing [])) := by
  rw [transactionStep_r1Poll s k r hph, pollR1_stop (.inl (ne_noResp_of_le_one hr)), afterR1_of_r37 hkind,
    isErr_eq_false hr, transactionStep_trailing _ [] rfl, readTrailing_more (by decide)]
  rfl

theorem transactionStep_r1_of_data {s : State} {k : Nat} {r : Byte} (hph : s.txn.phase = .r1Poll k r)
    (hr : r.toNat ≤ 1) (hkind : s.txn.kind = .data) (hpolls : 0 < s.cfg.tokenPollMax) :
    transactionStep s = transactionStep ((s.withR1 r).atPhase (.tokenPoll 0 0xFF)) := by
  rw [transactionStep_r1Poll s k r hph, pollR1_stop (.inl (ne_noResp_of_le_one hr)), afterR1_of_data hkind,
    isErr_eq_false hr, if_neg (by decide), pollToken_again (s := s.withR1 r) rfl hpolls,
    transactionStep_tokenPoll _ 0 0xFF rfl, pollToken_again (s := (s.withR1 r).atPhase _) rfl hpolls]
  rfl

/-- `s` with the data-start token seen and no data byte yet (R171, R172). -/
def State.withDataStart (s : State) : State := { s with txn := { s.txn with phase := .data 0, tok := 0xFE } }

theorem transactionStep_dataStart {s : State} {p : Nat} (hph : s.txn.phase = .tokenPoll p 0xFE) :
    transactionStep s = transactionStep s.withDataStart := by
  rw [transactionStep_tokenPoll s p 0xFE hph, pollToken_dataStart, transactionStep_data s.withDataStart 0 rfl,
    dataPhase_more (by decide), dataPhase_more (by decide)]
  rfl

/-- The trailing bytes of an R3 or R7 response after those already got, up to four. -/
theorem execRun_trailing {i : Instr} {rest : List Byte} (bs : List Byte) :
    ∀ (got : List Byte) (s : State), Sends i s → s.txn.phase = .trailing got → got.length + bs.length ≤ 4 →
      s.cardIn = bs ++ rest →
      execRun i bs.length s = .next (s.clocked (.trailing (got ++ bs)) (bs.map (.xchgEv 0xFF)) rest) := by
  induction bs with
  | nil =>
    intro got s hs hph hlen hin
    rw [List.append_nil]
    exact congrArg _ (clocked_nil hph hin).symm
  | cons b bs ih =>
    intro got s hs hph hlen hin
    rw [List.length_cons] at hlen
    rw [List.cons_append] at hin
    have hstep : transactionStep s = s.clocked (.trailing (got ++ [b])) [.xchgEv 0xFF b] (bs ++ rest) := by
      rw [transactionStep_trailing s got hph, readTrailing_more (by omega), trailingByte, nextIn_eq hin,
        exchange_atPhase hin]
    have hleft : (got ++ [b]).length + bs.length ≤ 4 := by rw [List.length_append, List.length_singleton]; omega
    rw [List.length_cons, hs.execRun_step hstep (by simp [hph]), ih (got ++ [b]) _ (hs.clocked _ _ _) rfl hleft rfl,
      clocked_clocked, List.append_assoc]
    rfl

/-- A sector buffer after the bytes `bs` have been stored from index `k` up (R172). -/
def Memory.storeFrom (m : Memory) : Nat → List Byte → Memory
  | _, [] => m
  | k, b :: bs => Memory.storeFrom (m.write k b) (k + 1) bs

/-- The bytes stored read back; every other byte is as before. -/
theorem Memory.read_storeFrom (bs : List Byte) : ∀ (m : Memory) (k : Nat), k + bs.length ≤ 512 → ∀ a,
    (m.storeFrom k bs).read a = if k ≤ a ∧ a < k + bs.length then bs[a - k]? else m.read a := by
  induction bs with
  | nil => intro m k _ a; exact (if_neg (by simp)).symm
  | cons b bs ih =>
    intro m k hk a
    rw [List.length_cons] at hk ⊢
    rw [Memory.storeFrom, ih _ _ (by omega), Memory.read_write m k b a (by omega)]
    rcases Nat.lt_trichotomy a k with hlt | rfl | hgt
    · rw [if_neg (by omega), if_neg (by omega), if_neg (by omega)]
    · rw [if_neg (by omega), if_pos rfl, if_pos (by omega), Nat.sub_self, List.getElem?_cons_zero]
    · rw [if_neg (show a ≠ k by omega), show a - k = a - (k + 1) + 1 by omega, List.getElem?_cons_succ]
      exact if_congr (by omega) rfl rfl

/-- The data bytes after the first `k`, each stored at the next index (R172). -/
theorem execRun_data {i : Instr} {rest : List Byte} (bs : List Byte) :
    ∀ (k : Nat) (s : State), Sends i s → s.txn.phase = .data k → k + bs.length ≤ 512 → s.cardIn = bs ++ rest →
      execRun i bs.length s = .next
        ((s.withSb (s.sb.storeFrom k bs)).clocked (.data (k + bs.length)) (bs.map (.xchgEv 0xFF)) rest) := by
  induction bs with
  | nil =>
    intro k s hs hph hk hin
    exact congrArg _ (clocked_nil hph hin).symm
  | cons b bs ih =>
    intro k s hs hph hk hin
    rw [List.length_cons] at hk
    rw [List.cons_append] at hin
    have hstep : transactionStep s =
        (s.withSb (s.sb.write k b)).clocked (.data (k + 1)) [.xchgEv 0xFF b] (bs ++ rest) := by
      rw [transactionStep_data s k hph, dataPhase_more (by omega), dataByte, nextIn_eq hin, exchange_atPhase hin]
      rfl
    rw [List.length_cons, hs.execRun_step hstep (by simp [hph]),
      ih (k + 1) _ ((hs.withSb _).clocked _ _ _) rfl (by omega) rfl, Nat.add_right_comm k 1]
    exact congrArg _ (clocked_clocked _ _ _ _ _ _ (s.withSb ((s.sb.write k b).storeFrom (k + 1) bs)))

end Sys2Proof.Machine
end

section
/-! ## Whole transactions (R161-R173)

After the R1 byte each response kind has a run of its own; the statements join it to the run up to that byte. -/

namespace Sys2Proof.Machine

/-! ### From the R1 byte on -/

/-- Kind R1: nothing more is read (R161, R165). -/
theorem execRun_r1Response {i : Instr} {s : State} {k : Nat} {r z0 z1 : Byte} {rest : List Byte} (hs : Sends i s)
    (hph : s.txn.phase = .r1Poll k r) (hr : r ≠ 0xFF) (hkind : s.txn.kind = .r1) (hin : s.cardIn = z0 :: z1 :: rest) :
    execRun i 3 s = .next (((s.withR1 r).withCs .desel).clocked .complete (closingEvents z0 z1) rest) :=
  execRun_closing hs (by simp [hph]) (transactionStep_r1_of_r1 hph hr hkind) hs hin

/-- After the four trailing bytes (R163, R165). -/
theorem execRun_afterTrailing {i : Instr} {s : State} {b1 b2 b3 b4 z0 z1 : Byte} {rest : List Byte} (hs : Sends i s)
    (hph : s.txn.phase = .trailing [b1, b2, b3, b4]) (hin : s.cardIn = z0 :: z1 :: rest) :
    execRun i 3 s = .next
      (((s.withResp (b1 ++ b2 ++ b3 ++ b4)).withCs .desel).clocked .complete (closingEvents z0 z1) rest) :=
  execRun_closing hs (by simp [hph]) ((transactionStep_trailing s _ hph).trans (readTrailing_four b1 b2 b3 b4 s)) hs hin

/-- Kinds R3 and R7 without an R1 error: four trailing bytes (R163, R165). -/
theorem execRun_r37Response {i : Instr} {s : State} {k : Nat} {r b1 b2 b3 b4 z0 z1 : Byte} {rest : List Byte}
    (hs : Sends i s) (hph : s.txn.phase = .r1Poll k r) (hr : r.toNat ≤ 1)
    (hkind : s.txn.kind = .r3 ∨ s.txn.kind = .r7) (hin : s.cardIn = [b1, b2, b3, b4] ++ z0 :: z1 :: rest) :
    execRun i 7 s = .next ((((s.withR1 r).withResp (b1 ++ b2 ++ b3 ++ b4)).withCs .desel).clocked .complete
      ([b1, b2, b3, b4].map (Event.xchgEv 0xFF) ++ closingEvents z0 z1) rest) := by
  have hs' : Sends i ((s.withR1 r).atPhase (.trailing [])) := hs
  have hcongr := hs.execRun_congr hs' (by simp [hph]) (by nofun) (transactionStep_r1_of_r37 hph hr hkind) 6
  have htrailing := execRun_trailing [b1, b2, b3, b4] [] _ hs' rfl (le_refl 4) hin
  rw [List.nil_append] at htrailing
  refine hcongr.trans ((execRun_add htrailing 3).trans ?_)
  rw [execRun_afterTrailing (hs'.clocked _ _ _) rfl rfl]
  simp [State.clocked, State.withCs, State.withResp, State.atPhase]

/-- After the 512 data bytes: two CRC bytes, which go nowhere, and TOKEN_LAST (R172). -/
theorem execRun_afterData {i : Instr} {s : State} {c0 c1 z0 z1 : Byte} {rest : List Byte} (hs : Sends i s)
    (hph : s.txn.phase = .data 512) (hin : s.cardIn = c0 :: c1 :: z0 :: z1 :: rest) :
    execRun i 5 s = .next (((s.withToken 0xFE).withCs .desel).clocked .complete
      ([c0, c1].map (Event.xchgEv 0xFF) ++ closingEvents z0 z1) rest) := by
  have hcrc1 : transactionStep s = s.clocked .crc1 [.xchgEv 0xFF c0] (c1 :: z0 :: z1 :: rest) := by
    rw [transactionStep_data s 512 hph, dataPhase_done, fill, exchange_atPhase hin]
  have hcrc2 : transactionStep (s.clocked .crc1 [.xchgEv 0xFF c0] (c1 :: z0 :: z1 :: rest)) =
      s.clocked .crc2 [.xchgEv 0xFF c0, .xchgEv 0xFF c1] (z0 :: z1 :: rest) := by
    rw [transactionStep_crc1 _ rfl, fill, exchange_atPhase rfl, clocked_clocked]
    rfl
  have hend : transactionStep (s.clocked .crc2 [.xchgEv 0xFF c0, .xchgEv 0xFF c1] (z0 :: z1 :: rest)) =
      settle ((s.withToken 0xFE).clocked .crc2 [.xchgEv 0xFF c0, .xchgEv 0xFF c1] (z0 :: z1 :: rest)) :=
    (transactionStep_crc2 _ rfl).trans (endData_eq_settle _ _)
  rw [hs.execRun_step hcrc1 (by simp [hph]), (hs.clocked _ _ _).execRun_step hcrc2 (by nofun),
    execRun_closing (hs.clocked _ _ _) (by nofun) hend ((hs.withToken _).clocked _ _ _) rfl]
  exact congrArg _ (clocked_clocked _ _ _ _ _ _ ((s.withToken 0xFE).withCs .desel))

/-- From the data-start token on: the 512 bytes into SB and what follows them (R172). -/
theorem execRun_dataPhase {i : Instr} {s : State} {p : Nat} {data : List Byte} {c0 c1 z0 z1 : Byte} {rest : List Byte}
    (hs : Sends i s) (hph : s.txn.phase = .tokenPoll p 0xFE) (hlen : data.length = 512)
    (hin : s.cardIn = data ++ c0 :: c1 :: z0 :: z1 :: rest) :
    execRun i 517 s = .next ((((s.withSb (s.sb.storeFrom 0 data)).withToken 0xFE).withCs .desel).clocked .complete
      ((data ++ [c0, c1]).map (Event.xchgEv 0xFF) ++ closingEvents z0 z1) rest) := by
  have hs' : Sends i s.withDataStart := hs
  have hcongr := hs.execRun_congr hs' (by simp [hph]) (by nofun) (transactionStep_dataStart hph) 516
  have hdata := execRun_data data 0 s.withDataStart hs' rfl (by omega) hin
  rw [hlen, Nat.zero_add] at hdata
  rw [hcongr, execRun_add hdata 5, execRun_afterData ((hs'.withSb _).clocked _ _ _) rfl rfl]
  simp [State.clocked, State.withCs, State.withSb, State.withToken, State.withDataStart]

/-- A block read without an R1 error whose token comes: the token poll and the data phase (R171, R172). -/
theorem execRun_dataResponse {i : Instr} {s : State} {k p : Nat} {r c0 c1 z0 z1 : Byte} {data rest : List Byte}
    (hs : Sends i s) (hph : s.txn.phase = .r1Poll k r) (hr : r.toNat ≤ 1) (hkind : s.txn.kind = .data)
    (hp : p < s.cfg.tokenPollMax) (hlen : data.length = 512)
    (hin : s.cardIn = List.replicate p 0xFF ++ 0xFE :: (data ++ c0 :: c1 :: z0 :: z1 :: rest)) :
    execRun i (p + 1 + 517) s = .next
      (((((s.withR1 r).withSb (s.sb.storeFrom 0 data)).withToken 0xFE).withCs .desel).clocked .complete
        ((List.replicate p 0xFF ++ [0xFE] ++ data ++ [c0, c1]).map (Event.xchgEv 0xFF) ++ closingEvents z0 z1)
        rest) := by
  have hs' : Sends i ((s.withR1 r).atPhase (.tokenPoll 0 0xFF)) := hs
  have hcongr := hs.execRun_congr hs' (by simp [hph]) (by nofun)
    (transactionStep_r1_of_data hph hr hkind (Nat.zero_lt_of_lt hp)) (p + 517)
  have hpoll := polls_tokenPoll.execRun_until p 0 _ hs' rfl (by rwa [Nat.zero_add]) hin
  rw [Nat.add_right_comm p 1 517, hcongr, Nat.add_right_comm p 517 1, execRun_add hpoll 517,
    execRun_dataPhase (hs'.clocked _ _ _) rfl hlen rfl]
  simp only [State.clocked, State.withCs, State.withSb, State.withToken, State.withR1, State.atPhase, List.append_assoc,
    List.map_append, List.map_replicate, List.map_singleton]

/-! ### The statements -/

theorem frameBytes_of_sentBytes {c : Config} {i : Instr} {f : BitVec 48} {bs : List Byte} (henc : encode c i = .frame f)
    (h : sentBytes c i = bs) : frameBytes f = bs := by rwa [sentBytes, henc] at h

/-- Settles O58: the run up to the R1 byte and the response of kind R1. -/
theorem r1TransactionRuns : Obligations.R1TransactionRuns := by
  unfold Obligations.R1TransactionRuns
  intro i s f0 f1 f2 f3 f4 f5 a0 a1 a2 a3 a4 a5 a6 r z0 z1 j rest hi hsent hph hj hr hin
  obtain ⟨hframe, hkind⟩ : isHostOp i = false ∧ frameKind i = .r1 := by
    rcases hi with rfl | rfl | rfl | ⟨idx, arg, chk, rfl⟩ <;> exact ⟨rfl, rfl⟩
  obtain ⟨f, henc⟩ := encode_frame s.cfg i hframe
  have hbytes := frameBytes_of_sentBytes henc hsent
  have huntil := execRun_untilR1 (a0 := a0) (r := r) (as := [a1, a2, a3, a4, a5, a6]) (rest := z0 :: z1 :: rest) henc
    hph rfl hj (by simp [hin])
  have hrun := (execRun_add huntil 3).trans
    (execRun_r1Response ((sends_begun henc _).clocked _ _ _) rfl hr hkind rfl)
  rw [show j + 12 = 8 + (j + 1) + 3 by omega]
  refine ⟨_, hrun, rfl, rfl, rfl, rfl, rfl, rfl, rfl, rfl, ?_⟩
  simp [State.clocked, State.withCs, State.withR1, State.begun, closingEvents, hbytes]

/-- Settles O59: the run up to the R1 byte and the response of kinds R3 and R7. -/
theorem r37TransactionRuns : Obligations.R37TransactionRuns := by
  unfold Obligations.R37TransactionRuns
  intro i s f0 f1 f2 f3 f4 f5 a0 a1 a2 a3 a4 a5 a6 r b1 b2 b3 b4 z0 z1 j rest hi hsent hph hj hr hin
  obtain ⟨hframe, hkind⟩ : isHostOp i = false ∧ (frameKind i = .r3 ∨ frameKind i = .r7) := by
    rcases hi with rfl | rfl
    · exact ⟨rfl, .inr rfl⟩
    · exact ⟨rfl, .inl rfl⟩
  obtain ⟨f, henc⟩ := encode_frame s.cfg i hframe
  have hbytes := frameBytes_of_sentBytes henc hsent
  have huntil := execRun_untilR1 (a0 := a0) (r := r) (as := [a1, a2, a3, a4, a5, a6])
    (rest := [b1, b2, b3, b4] ++ z0 :: z1 :: rest) henc hph rfl hj (by simp [hin])
  have hrun := (execRun_add huntil 7).trans
    (execRun_r37Response ((sends_begun henc _).clocked _ _ _) rfl hr hkind rfl)
  rw [show j + 16 = 8 + (j + 1) + 7 by omega]
  refine ⟨_, hrun, rfl, rfl, rfl, rfl, rfl, rfl, rfl, rfl, rfl, ?_⟩
  simp [State.clocked, State.withCs, State.withR1, State.withResp, State.begun, closingEvents, hbytes]

/-- Settles O60: the run up to the R1 byte, the token poll and the data phase. -/
theorem blockReadRuns : Obligations.BlockReadRuns := by
  unfold Obligations.BlockReadRuns
  intro s sector pre data r c0 c1 z0 z1 j p rest hph hpre hdata hj hp hr hin
  obtain ⟨a0, as, rfl⟩ : ∃ a0 as, pre = a0 :: as := List.exists_cons_of_length_eq_add_one hpre
  have henc : encode s.cfg (.cmd17 sector) = .frame (cmd17Frame s.cfg sector) := rfl
  have huntil := execRun_untilR1 (a0 := a0) (r := r) (as := as)
    (rest := List.replicate p 0xFF ++ 0xFE :: (data ++ c0 :: c1 :: z0 :: z1 :: rest)) henc hph (Nat.succ.inj hpre) hj
    (by simp [hin])
  have hrun := (execRun_add huntil (p + 1 + 517)).trans
    (execRun_dataResponse ((sends_begun henc _).clocked _ _ _) rfl hr rfl hp hdata rfl)
  rw [show j + p + 527 = 8 + (j + 1) + (p + 1 + 517) by omega]
  refine ⟨_, hrun, rfl, rfl, rfl, rfl, rfl, rfl, rfl, rfl, fun a ha => ?_⟩
  exact (Memory.read_storeFrom data s.sb 0 (by omega) a).trans (if_pos ⟨Nat.zero_le a, by omega⟩)

end Sys2Proof.Machine
end

section
/-! ## INIT outside its transactions (R178, R180, R182-R186) -/

namespace Sys2Proof.Machine

/-- INIT outside a transaction does what its point says. -/
theorem exec_init_resume {s : State} {p : Point} (hph : s.txn.phase = .complete) (hp : s.point = p) :
    exec .init s = .next (resumeInit p s) := by
  rw [← hp]; exact exec_resume .init s rfl hph

/-- Settles O25: each point before the first CMD0 says its one primitive. -/
theorem initPowersUp : Obligations.InitPowersUp := by
  unfold Obligations.InitPowersUp
  intro s hph
  exact ⟨exec_init_resume hph, exec_init_resume hph, fun k => exec_init_resume hph, exec_init_resume hph⟩

/-! ### RESULT after INIT (R185) -/

/-- The failing step, the CMD0 attempts modulo 2^8 and the AppInit iterations modulo 2^16. -/
theorem initResult_toNat (a n : Nat) (failed : Byte) :
    (initResult a n failed).toNat = 2 ^ 16 * (n % 2 ^ 16) + 2 ^ 8 * (a % 2 ^ 8) + failed.toNat := by
  simp only [initResult, toNat_append_eq_add, BitVec.toNat_ofNat]
  omega

/-- A failure of INIT, with the RESULT word in numbers (R185). -/
theorem initFail_result (failed : Byte) (a n : Nat) (s : State) :
    ∃ r : Word, r.toNat = 2 ^ 16 * (n % 2 ^ 16) + 2 ^ 8 * (a % 2 ^ 8) + failed.toNat ∧
      initFail failed a n s = endedWith 0x02 { s with result := r } :=
  ⟨_, initResult_toNat a n failed, rfl⟩

/-- A failure before AppInit, whose iterations count as 0. -/
theorem initFail_result_zero (failed : Byte) (a : Nat) (s : State) :
    ∃ r : Word, r.toNat = 2 ^ 8 * (a % 2 ^ 8) + failed.toNat ∧
      initFail failed a 0 s = endedWith 0x02 { s with result := r } := by
  obtain ⟨r, hr, hfail⟩ := initFail_result failed a 0 s
  exact ⟨r, by omega, hfail⟩

/-! ### GoIdle and InterfaceCheck (R182, R183) -/

theorem resumeInit_goIdle_idle {s : State} (h : s.txn.r1 = 0x01) (a : Nat) :
    resumeInit (.init (.goIdle a)) s =
      selectedFor (.init (.ifCond a)) (frameWord s.cfg 8 s.cfg.cmd8Arg s.cfg.initChk.cmd8) .r7 s := if_pos h

theorem resumeInit_goIdle_again {s : State} {a : Nat} (h : s.txn.r1 ≠ 0x01) (ha : a < s.cfg.idleAttempts) :
    resumeInit (.init (.goIdle a)) s =
      selectedFor (.init (.goIdle (a + 1))) (frameWord s.cfg 0 0 s.cfg.initChk.cmd0) .r1 s :=
  (if_neg h).trans (if_neg (not_le.mpr ha))

theorem resumeInit_goIdle_fail {s : State} {a : Nat} (h : s.txn.r1 ≠ 0x01) (ha : s.cfg.idleAttempts ≤ a) :
    resumeInit (.init (.goIdle a)) s = initFail 1 a 0 s := (if_neg h).trans (if_pos ha)

/-- The echo test is on the trailing word, and fails where there is none (R163, R183). -/
theorem echoOk_iff (s : State) :
    echoOk s = true ↔ ∃ t, s.txn.word = some t ∧ t.extractLsb' 0 8 = s.cfg.checkPattern := by
  unfold echoOk
  cases s.txn.word <;> simp

theorem resumeInit_ifCond_ok {s : State} (herr : s.txn.r1.toNat ≤ 1) (hecho : echoOk s = true) (a : Nat) :
    resumeInit (.init (.ifCond a)) s =
      selectedFor (.init (.appCmd a 1)) (frameWord s.cfg 55 0 s.cfg.initChk.cmd55) .r1 s := by
  rw [resumeInit, isErr_eq_false herr, hecho]; rfl

theorem resumeInit_ifCond_fail {s : State} (h : 1 < s.txn.r1.toNat ∨ ¬ echoOk s = true) (a : Nat) :
    resumeInit (.init (.ifCond a)) s = initFail 2 a 0 s := by
  rw [resumeInit]
  split
  · rfl
  · rename_i herr
    exact if_neg (h.resolve_left fun hlt => herr (isErr_eq_true hlt))

/-- Settles O26: after CMD0 the R1 byte and the attempts left decide, after CMD8 the R1 byte and the echo. -/
theorem initIdleAndInterfaceCheck : Obligations.InitIdleAndInterfaceCheck := by
  unfold Obligations.InitIdleAndInterfaceCheck
  refine ⟨fun s a hph hp => ?_, fun s a hph hp => ?_⟩ <;> rw [exec_init_resume hph hp]
  · refine ⟨fun hr => ?_, fun hr ha => ?_, fun hr ha => ?_⟩
    · rw [resumeInit_goIdle_idle hr]
    · rw [resumeInit_goIdle_again hr ha]
    · rw [resumeInit_goIdle_fail hr ha]
      obtain ⟨r, hresult, hfail⟩ := initFail_result_zero 1 a s
      exact ⟨r, hresult, congrArg _ hfail⟩
  · refine ⟨fun t hr hword hecho => ?_, fun h => ?_⟩
    · rw [resumeInit_ifCond_ok hr ((echoOk_iff s).mpr ⟨t, hword, hecho⟩)]
    · have hbad : 1 < s.txn.r1.toNat ∨ ¬ echoOk s = true :=
        h.imp_right fun hecho hok => by
          obtain ⟨t, hword, ht⟩ := (echoOk_iff s).mp hok
          exact hecho t hword ht
      rw [resumeInit_ifCond_fail hbad]
      obtain ⟨r, hresult, hfail⟩ := initFail_result_zero 2 a s
      exact ⟨r, hresult, congrArg _ hfail⟩

/-! ### AppInit (R184) -/

theorem resumeInit_appCmd_ok {s : State} (h : s.txn.r1.toNat ≤ 1) (a n : Nat) :
    resumeInit (.init (.appCmd a n)) s =
      selectedFor (.init (.opCond a n)) (frameWord s.cfg 41 s.cfg.acmd41Arg s.cfg.initChk.acmd41) .r1 s := by
  rw [resumeInit, isErr_eq_false h]; rfl

theorem resumeInit_appCmd_err {s : State} (h : 1 < s.txn.r1.toNat) (a n : Nat) :
    resumeInit (.init (.appCmd a n)) s = initRetry a n s := if_pos (isErr_eq_true h)

theorem resumeInit_opCond_ready {s : State} (h : s.txn.r1 = 0x00) (a n : Nat) :
    resumeInit (.init (.opCond a n)) s = (delay s.cfg.ocrSettleMs s).atPoint (.init (.ocrSettled a n)) := if_pos h

theorem resumeInit_opCond_notReady {s : State} (h : s.txn.r1 ≠ 0x00) (a n : Nat) :
    resumeInit (.init (.opCond a n)) s = initRetry a n s := if_neg h

theorem initRetry_of_lt {s : State} {n : Nat} (hn : n < s.cfg.appAttempts) (a : Nat) :
    initRetry a n s = (delay s.cfg.paceMs s).atPoint (.init (.paced a n)) := if_neg (not_le.mpr hn)

theorem initRetry_of_le {s : State} {n : Nat} (hn : s.cfg.appAttempts ≤ n) (a : Nat) :
    initRetry a n s = initFail 3 a n s := if_pos hn

/-- Settles O27: an iteration fails at CMD55 or at ACMD41, and the iterations left then decide. -/
theorem initNegotiates : Obligations.InitNegotiates := by
  unfold Obligations.InitNegotiates
  refine ⟨fun s a n hph hp hr => ?_, fun s a n hph hp hr => ?_, fun s a n hph hfailed => ?_, fun s a n hph hp => ?_⟩
  · rw [exec_init_resume hph hp, resumeInit_appCmd_ok hr]
  · rw [exec_init_resume hph hp, resumeInit_opCond_ready hr]; rfl
  · have hretry : exec .init s = .next (initRetry a n s) := by
      rcases hfailed with ⟨hp, hr⟩ | ⟨hp, hr⟩
      · rw [exec_init_resume hph hp, resumeInit_appCmd_err hr]
      · rw [exec_init_resume hph hp, resumeInit_opCond_notReady hr]
    rw [hretry]
    refine ⟨fun hn => ?_, fun hn => ?_⟩
    · rw [initRetry_of_lt hn]; rfl
    · rw [initRetry_of_le hn]
      obtain ⟨r, hresult, hfail⟩ := initFail_result 3 a n s
      exact ⟨r, hresult, congrArg _ hfail⟩
  · exact exec_init_resume hph hp

/-! ### ReadOCR (R185, R186) -/

/-- Settles O28: neither point of ReadOCR looks at a response. -/
theorem initCompletes : Obligations.InitCompletes := by
  unfold Obligations.InitCompletes
  intro s a n hph
  refine ⟨fun hp => exec_init_resume hph hp, fun hp => ?_⟩
  exact ⟨initResult a n 0, initResult_toNat a n 0, exec_init_resume hph hp⟩

end Sys2Proof.Machine
end

/-! # Proofs: the volume reader (41_volume_reader.md) -/

section
/-! ## Cluster and geometry arithmetic in numbers (R216-R218, R220) -/

namespace Sys2Proof.Machine

/-- A host operation outside a transaction does what its point says. -/
theorem exec_resume_at {i : Instr} (hi : isHostOp i = true) {s : State} {p : Point} (hph : s.txn.phase = .complete)
    (hp : s.point = p) : exec i s = .next (resumeOf i p s) := by
  rw [← hp]; exact exec_resume i s hi hph

/-! ### Words as integers modulo 2^32 -/

theorem word_sub_modEq (x y : Word) : ((x - y).toNat : Int) ≡ x.toNat - y.toNat [ZMOD 2 ^ 32] := by
  rw [BitVec.toNat_sub]
  unfold Int.ModEq
  omega

theorem word_add_modEq (x y : Word) : ((x + y).toNat : Int) ≡ x.toNat + y.toNat [ZMOD 2 ^ 32] := by
  rw [BitVec.toNat_add]
  exact_mod_cast Nat.mod_modEq _ _

theorem word_mul_modEq (x y : Word) : ((x * y).toNat : Int) ≡ x.toNat * y.toNat [ZMOD 2 ^ 32] := by
  rw [BitVec.toNat_mul]
  exact_mod_cast Nat.mod_modEq _ _

/-- A word is the remainder of every integer it is congruent to. -/
theorem word_toNat_eq_emod {x : Word} {a : Int} (h : (x.toNat : Int) ≡ a [ZMOD 2 ^ 32]) :
    (x.toNat : Int) = a % 2 ^ 32 := by
  rw [← h.eq, Int.emod_eq_of_lt (by omega) (by have := x.isLt; omega)]

theorem toNat_setWidth_word {w : Nat} (hw : w ≤ 32) (x : BitVec w) : (x.setWidth 32).toNat = x.toNat := by
  rw [BitVec.toNat_setWidth, Nat.mod_eq_of_lt (x.isLt.trans_le (Nat.pow_le_pow_right two_pos hw))]

/-! ### C2S (R220, R221) -/

theorem clusterToSector_toNat (c : Word) (spc : BitVec 8) (fds : Word) :
    ((clusterToSector c spc fds).toNat : Int) =
      (((c.toNat : Int) - 2) * (spc.toNat : Int) + (fds.toNat : Int)) % 2 ^ 32 := by
  have hprod := word_mul_modEq (c - 2) (spc.setWidth 32)
  rw [toNat_setWidth_word (by decide)] at hprod
  refine word_toNat_eq_emod ((word_add_modEq _ fds).trans (Int.ModEq.add_right _ (hprod.trans ?_)))
  exact (word_sub_modEq c 2).mul_right _

/-- Settles O17: C2S has no bus primitive, and its word's arithmetic is that of the integers modulo 2^32. -/
theorem c2sMapsClusters : Obligations.C2sMapsClusters := by
  unfold Obligations.C2sMapsClusters
  intro s hph
  exact ⟨s.sectorOf s.latch.arg, exec_resume .c2s s rfl hph, clusterToSector_toNat _ _ _⟩

/-! ### The first data sector and the total-cluster count (R217, R218) -/

theorem firstDataSector_toNat (hidden : Word) (rsvd : BitVec 16) (nfats : BitVec 8) (fatsz : Word) :
    (firstDataSector hidden rsvd nfats fatsz).toNat =
      (hidden.toNat + rsvd.toNat + nfats.toNat * fatsz.toNat) % 2 ^ 32 := by
  simp [firstDataSector]

theorem totalClusters_of_spc_eq_zero (totsec : Word) (rsvd : BitVec 16) (nfats : BitVec 8) (fatsz : Word)
    {spc : BitVec 8} (hspc : spc = 0) : totalClusters totsec rsvd nfats fatsz spc = 0 := if_pos hspc

/-- The sectors behind the FATs, as the count's numerator takes them. -/
theorem dataSectors_toNat (totsec : Word) (rsvd : BitVec 16) (nfats : BitVec 8) (fatsz : Word) :
    ((totsec - (rsvd.setWidth 32 + nfats.setWidth 32 * fatsz)).toNat : Int) =
      ((totsec.toNat : Int) - ((rsvd.toNat + nfats.toNat * fatsz.toNat : Nat) : Int)) % 2 ^ 32 := by
  have hmeta : ((rsvd.setWidth 32 + nfats.setWidth 32 * fatsz).toNat : Int) ≡
      ((rsvd.toNat + nfats.toNat * fatsz.toNat : Nat) : Int) [ZMOD 2 ^ 32] := by
    have hprod := word_mul_modEq (nfats.setWidth 32) fatsz
    have hsum := (word_add_modEq (rsvd.setWidth 32) _).trans (hprod.add_left _)
    rw [toNat_setWidth_word (by decide), toNat_setWidth_word (by decide)] at hsum
    exact_mod_cast hsum
  exact word_toNat_eq_emod ((word_sub_modEq _ _).trans (hmeta.sub_left _))

theorem totalClusters_toNat (totsec : Word) (rsvd : BitVec 16) (nfats : BitVec 8) (fatsz : Word) {spc : BitVec 8}
    (hspc : spc ≠ 0) :
    ((totalClusters totsec rsvd nfats fatsz spc).toNat : Int) =
      (((totsec.toNat : Int) - ((rsvd.toNat + nfats.toNat * fatsz.toNat : Nat) : Int)) % 2 ^ 32) / spc.toNat := by
  rw [totalClusters, if_neg hspc, BitVec.toNat_udiv, Int.natCast_div, dataSectors_toNat,
    toNat_setWidth_word (by decide)]

end Sys2Proof.Machine
end

section
/-! ## MOUNT after its reads (R210-R219) -/

namespace Sys2Proof.Machine

theorem jumpOk_iff (b : Byte) : jumpOk b = true ↔ b = 0xE9 ∨ b = 0xEB := by simp [jumpOk]

/-- The signature is the byte 0x55 followed by 0xAA (R213). -/
theorem mbrOk_iff (s : State) : s.mbrOk = true ↔ s.sbByte 510 = 0x55 ∧ s.sbByte 511 = 0xAA := by
  have hword : (s.le16 510).toNat = (s.sbByte 510).toNat + 2 ^ 8 * (s.sbByte 511).toNat := le16_toNat s 510
  have hlow := (s.sbByte 510).isLt
  rw [State.mbrOk, beq_iff_eq, ← BitVec.toNat_inj, ← BitVec.toNat_inj, ← BitVec.toNat_inj, hword]
  show _ = 0xAA55 ↔ _ = 0x55 ∧ _ = 0xAA
  omega

/-! What each point does, by the token and the bytes of the sector read (R210-R214). -/

theorem resumeMount_failedRead {p : Point} (hp : inMount p = true) {s : State} (htok : s.txn.tok ≠ dataStart) :
    resumeMount p s = endedWith 0x03 s := by
  cases p with
  | mount q => cases q <;> exact if_pos htok
  | start | init q | sendcmd | rdblk | rdfile q => cases hp

/-- A boot sector is committed, with UNUSED by where it was read (R215, R219). -/
theorem resumeMount_bootSector {p : Point} {u : Word} (hp : p = .mount .sector0 ∧ u = 0 ∨ p = .mount (.partition u))
    {s : State} (htok : s.txn.tok = dataStart) (hjump : jumpOk (s.sbByte 0) = true) :
    resumeMount p s = commitMount u s := by
  rcases hp with ⟨rfl, rfl⟩ | rfl <;> exact (if_neg (not_not.mpr htok)).trans (if_pos hjump)

theorem resumeMount_sector0_noJump {s : State} (htok : s.txn.tok = dataStart) (hjump : ¬ jumpOk (s.sbByte 0) = true) :
    resumeMount (.mount .sector0) s =
      if s.mbrOk then blockRead (.mount (.partition s.partitionStart)) s.partitionStart s
      else finish codeMbrSigErr s :=
  (if_neg (not_not.mpr htok)).trans (if_neg hjump)

theorem resumeMount_partition_noJump {s : State} (htok : s.txn.tok = dataStart) (hjump : ¬ jumpOk (s.sbByte 0) = true)
    (u : Word) : resumeMount (.mount (.partition u)) s = endedWith 0x04 s :=
  (if_neg (not_not.mpr htok)).trans (if_neg hjump)

/-- Settles O20: the commit takes `Geometry()` of the sector in SB, whose fields are read and computed in numbers. -/
theorem mountCommitsGeometry : Obligations.MountCommitsGeometry := by
  unfold Obligations.MountCommitsGeometry
  intro s u hph htok hjump hp
  have hexec : exec .mount s = .next (resumeMount s.point s) := exec_resume .mount s rfl hph
  rw [resumeMount_bootSector hp htok ((jumpOk_iff _).mpr hjump)] at hexec
  refine ⟨s.geometryOf u, hexec, le16_toNat s 11, rfl, le16_toNat s 14, rfl, le32_toNat s 28, le32_toNat s 32,
    le32_toNat s 36, le32_toNat s 44, firstDataSector_toNat _ _ _ _, fun hspc => ?_, fun hspc => ?_, rfl⟩
  · exact totalClusters_of_spc_eq_zero _ _ _ _ hspc
  · exact totalClusters_toNat _ _ _ _ hspc

/-- Settles O21: the token, the jump code and the signature decide in this order. -/
theorem mountOtherwise : Obligations.MountOtherwise := by
  unfold Obligations.MountOtherwise
  have hnoJump {s : State} (hE9 : s.sbByte 0 ≠ 0xE9) (hEB : s.sbByte 0 ≠ 0xEB) : ¬ jumpOk (s.sbByte 0) = true :=
    fun h => ((jumpOk_iff _).mp h).elim hE9 hEB
  refine ⟨fun s hph htok hp => ?_, fun s hph htok hp hE9 hEB => ?_, fun s u hph htok hp hE9 hEB => ?_⟩
  · exact (exec_resume .mount s rfl hph).trans (congrArg _ (resumeMount_failedRead hp htok))
  · have hexec : exec .mount s = .next (resumeMount (.mount .sector0) s) := exec_resume_at rfl hph hp
    rw [hexec, resumeMount_sector0_noJump htok (hnoJump hE9 hEB), ← mbrOk_iff]
    refine ⟨fun hsig => ⟨s.partitionStart, le32_toNat s 454, ?_⟩, fun hsig => ?_⟩
    · rw [if_pos hsig, blockRead_eq_selectedFor]
    · rw [if_neg hsig]; rfl
  · exact (exec_resume_at rfl hph hp).trans (congrArg _ (resumeMount_partition_noJump htok (hnoJump hE9 hEB) u))

end Sys2Proof.Machine
end

section
/-! ## The 8.3 short name (R128, R230)

The base ends at the first dot or with the name; a position of the short name is a position of the name or a space. -/

namespace Sys2Proof.Machine

/-- The base ends at the first dot. -/
theorem length_baseOf (l : List Byte) : (baseOf l).length = l.findIdx (· == 0x2E) := by
  simp [baseOf, List.takeWhile_eq_take_findIdx_not, List.findIdx_le_length, bne]

theorem baseOf_eq_take (l : List Byte) : baseOf l = l.take (baseOf l).length := by
  conv_lhs => rw [baseOf, List.takeWhile_eq_take_findIdx_not]
  simp [length_baseOf, bne]

theorem lt_length_baseOf_iff (l : List Byte) (j : Nat) :
    j < (baseOf l).length ↔ j < l.length ∧ ∀ i ≤ j, l.getD i 0 ≠ 0x2E := by
  rw [length_baseOf, List.lt_findIdx_iff, ← exists_prop]
  refine exists_congr fun hj => forall₂_congr fun i hi => ?_
  rw [List.getD_eq_getElem l 0 (hi.trans_lt hj), beq_eq_false_iff_ne]

theorem length_baseOf_le (l : List Byte) : (baseOf l).length ≤ l.length := by
  rw [length_baseOf]; exact List.findIdx_le_length

/-- Where the base ends before the name does, there is a dot. -/
theorem getD_length_baseOf {l : List Byte} (h : (baseOf l).length < l.length) :
    l.getD (baseOf l).length 0 = 0x2E := by
  by_contra hne
  refine lt_irrefl _ ((lt_length_baseOf_iff l _).mpr ⟨h, fun i hi => ?_⟩)
  rcases hi.lt_or_eq with hlt | rfl
  · exact ((lt_length_baseOf_iff l i).mp hlt).2 i le_rfl
  · exact hne

theorem getD_take {k m : Nat} (hk : k < m) (l : List Byte) : (l.take m).getD k 0 = l.getD k 0 := by
  simp [List.getD, hk]

/-! ### Padding to a fixed width (R128) -/

theorem length_padTo {n : Nat} {l : List Byte} (h : l.length ≤ n) : (padTo n l).length = n := by
  simp [padTo, h]

theorem getD_padTo {n k : Nat} (hk : k < n) (l : List Byte) :
    (padTo n l).getD k 0 = if k < l.length then l.getD k 0 else 0x20 := by
  unfold padTo
  split
  case isTrue h => exact List.getD_append _ _ _ _ h
  case isFalse h =>
    rw [List.getD_append_right _ _ _ _ (not_lt.mp h), List.getD_replicate _ (by omega)]

/-! ### The short name of a name whose base fits -/

/-- The base and the first three extension bytes, padded and upper-cased (R230). -/
def shortName (l : List Byte) : List Byte := (padTo 8 (baseOf l) ++ padTo 3 ((extOf l).take 3)).map upper

theorem getD_map_upper (l : List Byte) (k : Nat) : (l.map upper).getD k 0 = upper (l.getD k 0) :=
  List.getD_map l 0 upper

section
variable {l : List Byte} (hbase : (baseOf l).length ≤ 8)
include hbase

theorem length_shortName : (shortName l).length = 11 := by
  rw [shortName, List.length_map, List.length_append, length_padTo hbase, length_padTo (List.length_take_le 3 _)]

theorem getD_shortName_base {k : Nat} (hk : k < 8) :
    (shortName l).getD k 0 = upper (if k < (baseOf l).length then l.getD k 0 else 0x20) := by
  rw [shortName, getD_map_upper, List.getD_append _ _ _ _ (by rw [length_padTo hbase]; exact hk), getD_padTo hk]
  split
  case isTrue h => rw [baseOf_eq_take, getD_take h]
  case isFalse => rfl

theorem getD_shortName_ext {k : Nat} (hk : k < 3) :
    (shortName l).getD (8 + k) 0 =
      upper (if (baseOf l).length + 1 + k < l.length then l.getD ((baseOf l).length + 1 + k) 0 else 0x20) := by
  have hext : (extOf l).getD k 0 = l.getD ((baseOf l).length + 1 + k) 0 := by simp [extOf, List.getD]
  have hlen : k < ((extOf l).take 3).length ↔ (baseOf l).length + 1 + k < l.length := by
    rw [extOf, List.length_take, List.length_drop]; omega
  rw [shortName, getD_map_upper, List.getD_append_right _ _ _ _ (by rw [length_padTo hbase]; omega),
    length_padTo hbase, Nat.add_sub_cancel_left, getD_padTo hk, getD_take hk, hext]
  simp only [hlen]

end

/-! ### Which names are too long -/

theorem normalize_eq (len : Nat) (name : List Byte) :
    normalize len name =
      if 16 < len then none
      else if 8 < (baseOf (name.take len)).length then none
      else some (shortName (name.take len)) := rfl

section
variable {len : Nat} {name : List Byte} (hname : name.length = 16)
include hname

/-- The base is too long exactly where none of the first nine bytes is a dot. -/
theorem eight_lt_length_baseOf_iff (hlen : len ≤ 16) :
    8 < (baseOf (name.take len)).length ↔ 9 ≤ len ∧ ∀ j < 9, name.getD j 0 ≠ 0x2E := by
  rw [lt_length_baseOf_iff, List.length_take_of_le (hname ▸ hlen), Nat.lt_iff_add_one_le]
  refine and_congr_right fun hnine => forall_congr' fun j => ?_
  rw [Nat.lt_succ_iff]
  refine imp_congr_right fun hj => ?_
  rw [getD_take (by omega)]

theorem nameTooLong_iff :
    NameTooLong len name ↔ 16 < len ∨ len ≤ 16 ∧ 8 < (baseOf (name.take len)).length := by
  rcases lt_or_ge 16 len with hlong | hlen
  · simp [NameTooLong, hlong]
  · simp [NameTooLong, hlen, not_lt.mpr hlen, eight_lt_length_baseOf_iff hname hlen]

theorem normalize_of_nameTooLong (h : NameTooLong len name) : normalize len name = none := by
  rw [normalize_eq]
  rcases (nameTooLong_iff hname).mp h with hlong | ⟨hlen, hbase⟩
  · exact if_pos hlong
  · rw [if_neg (not_lt.mpr hlen), if_pos hbase]

/-- Every other name has its short name. -/
theorem normalize_of_not_nameTooLong (h : ¬ NameTooLong len name) :
    ∃ n, normalize len name = some n ∧ ShortNameOf len name n := by
  rw [nameTooLong_iff hname, not_or, not_lt, not_and, not_lt] at h
  obtain ⟨hlen, hfits⟩ := h
  have hbase : (baseOf (name.take len)).length ≤ 8 := hfits hlen
  have hl : (name.take len).length = len := List.length_take_of_le (hname ▸ hlen)
  have hd := length_baseOf_le (name.take len)
  rw [hl] at hd
  refine ⟨shortName (name.take len), by rw [normalize_eq, if_neg (not_lt.mpr hlen), if_neg (not_lt.mpr hbase)],
    (baseOf (name.take len)).length, hd, fun j hj => ?_, fun hdot => ?_, hbase, length_shortName hbase,
    fun k hk => ?_, fun k hk => ?_⟩
  · rw [← getD_take (hj.trans_le hd)]
    exact ((lt_length_baseOf_iff _ j).mp hj).2 j le_rfl
  · rw [← getD_take hdot]
    exact getD_length_baseOf (hdot.trans_eq hl.symm)
  · rw [getD_shortName_base hbase hk]
    split
    case isTrue h => rw [getD_take (h.trans_le hd)]
    case isFalse => rfl
  · rw [getD_shortName_ext hbase hk, hl]
    split
    case isTrue h => rw [getD_take h]
    case isFalse => rfl

end

end Sys2Proof.Machine
end

section
/-! ## NORM and RDFILE's start and end (R230, R231, R240, R242, R247, R288) -/

namespace Sys2Proof.Machine

theorem latchedShortName_none {s : State} (hlatch : LatchInv s)
    (h : NameTooLong s.latch.nameLen.toNat s.latch.name) : s.latchedShortName = none :=
  normalize_of_nameTooLong hlatch h

theorem latchedShortName_some {s : State} (hlatch : LatchInv s)
    (h : ¬ NameTooLong s.latch.nameLen.toNat s.latch.name) :
    ∃ n, s.latchedShortName = some n ∧ ShortNameOf s.latch.nameLen.toNat s.latch.name n :=
  normalize_of_not_nameTooLong hlatch h

theorem resumeNorm_tooLong {s : State} (h : s.latchedShortName = none) (p : Point) :
    resumeNorm p s = endedWith 0x06 s := by rw [resumeNorm, h]; rfl

theorem resumeNorm_short {s : State} {n : List Byte} (h : s.latchedShortName = some n) (p : Point) :
    resumeNorm p s = endedWith 0x00 (s.withNorm n) := by rw [resumeNorm, h]; rfl

/-- Settles O18: NORM goes by the latched short name, which every name has or is too long for. -/
theorem normNormalizes : Obligations.NormNormalizes := by
  unfold Obligations.NormNormalizes
  intro s hph hlatch
  have hexec : exec .norm s = .next (resumeNorm s.point s) := exec_resume .norm s rfl hph
  rw [hexec]
  refine ⟨fun hlong => ?_, fun hshort => ?_⟩
  · rw [resumeNorm_tooLong (latchedShortName_none hlatch hlong)]
  · obtain ⟨n, hn, hspec⟩ := latchedShortName_some hlatch hshort
    exact ⟨n, hspec, congrArg _ (resumeNorm_short hn s.point)⟩

theorem startRdfile_tooLong {s : State} (h : s.latchedShortName = none) : startRdfile s = endedWith 0x06 s := by
  rw [startRdfile, h]; rfl

/-- Past the name check NORM is written, whether the volume is mounted or not (R288). -/
theorem startRdfile_short {s : State} {n : List Byte} (h : s.latchedShortName = some n) :
    startRdfile s =
      if s.mounted then readDirectory 0 n (s.sectorOf s.geo.rootclus) (s.withNorm n)
      else endedWith 0x09 (s.withNorm n) := by rw [startRdfile, h]; rfl

/-- The scan extent has at least one sector, so the first is always read (R13, R241). -/
theorem readDirectory_zero {s : State} (hcfg : s.cfg.admitted = true) (target : List Byte) (s0 : Word) :
    readDirectory 0 target s0 s =
      selectedFor (.rdfile (.directory 0 target s0)) (frameWord s.cfg 17 s0 0x00) .data s := by
  obtain ⟨-, -, -, -, hroot, -⟩ := (Config.admitted_iff _).mp hcfg
  rw [readDirectory_of_lt hroot, blockRead_eq_selectedFor, BitVec.add_zero]

/-- Settles O22: the latched short name is looked at first, then `mounted`. -/
theorem rdfileStarts : Obligations.RdfileStarts := by
  unfold Obligations.RdfileStarts
  intro s hph hp hlatch hcfg
  have hexec : exec .rdfile s = .next (startRdfile s) := exec_resume_at rfl hph hp
  rw [hexec]
  refine ⟨fun hlong => ?_, fun hshort => ?_⟩
  · rw [startRdfile_tooLong (latchedShortName_none hlatch hlong)]
  · obtain ⟨n, hn, hspec⟩ := latchedShortName_some hlatch hshort
    rw [startRdfile_short hn]
    refine ⟨n, hspec, fun hmounted => ?_, fun hmounted => ?_⟩
    · rw [if_neg (Bool.eq_false_iff.mp hmounted)]
    · rw [if_pos hmounted, readDirectory_zero (s := s.withNorm n) hcfg]; rfl

theorem resumeRdfile_file_ok {s : State} (htok : s.txn.tok = dataStart) (c z : Word) :
    resumeRdfile (.rdfile (.file c z)) s = endedWith 0x00 { s with fclus := c, fsize := z } :=
  if_neg (not_not.mpr htok)

theorem resumeRdfile_file_failedRead {s : State} (htok : s.txn.tok ≠ dataStart) (c z : Word) :
    resumeRdfile (.rdfile (.file c z)) s = endedWith 0x03 s := if_pos htok

/-- Settles O24: after the file's sector the token alone decides. -/
theorem rdfileCompletes : Obligations.RdfileCompletes := by
  unfold Obligations.RdfileCompletes
  intro s cl z hph hp
  have hexec : exec .rdfile s = .next (resumeRdfile (.rdfile (.file cl z)) s) := exec_resume_at rfl hph hp
  rw [hexec]
  refine ⟨fun htok => ?_, fun htok => ?_⟩
  · rw [resumeRdfile_file_ok htok]
  · rw [resumeRdfile_file_failedRead htok]

end Sys2Proof.Machine
end

/-! # Proofs: diagnostics (42_diagnostics.md) -/

section
/-! ## The decoders' words, field by field (R260-R266)

A decoder's word is a concatenation of fields, so each of its bits is found by walking down from the lowest field. -/

namespace Sys2Proof.Machine

/-- A bit at or above the low part's width is a bit of the high part. -/
theorem getLsbD_append_of_le {m n k : Nat} (h : n ≤ k) (x : BitVec m) (y : BitVec n) :
    (x ++ y).getLsbD k = x.getLsbD (k - n) := by rw [BitVec.getLsbD_append, if_neg (not_lt.mpr h)]

/-- A bit below the low part's width is the low part's. -/
theorem getLsbD_append_of_lt {m n k : Nat} (h : k < n) (x : BitVec m) (y : BitVec n) :
    (x ++ y).getLsbD k = y.getLsbD k := by rw [BitVec.getLsbD_append, if_pos h]

/-- A field's bit is the word's bit at the field's offset. -/
theorem getLsbD_extractLsb'_of_lt {w n k : Nat} (h : k < n) (i : Nat) (x : BitVec w) :
    (x.extractLsb' i n).getLsbD k = x.getLsbD (i + k) := by
  rw [BitVec.getLsbD_extractLsb', decide_eq_true h, Bool.true_and]

theorem getLsbD_bitOf_zero (b : Bool) : (bitOf b).getLsbD 0 = b := by simp [bitOf]

/-! ### ClassR1 (R261) -/

theorem classR1_bits {k : Nat} (hk : k < 8) (v : Byte) : (classR1 v).getLsbD k = v.getLsbD k :=
  getLsbD_append_of_lt hk _ v

/-- The four categories, one bit each. -/
theorem classR1_categories (v : Byte) :
    (classR1 v).getLsbD 8 = (v == 0xFF) ∧ (classR1 v).getLsbD 9 = decide (0x01 < v.toNat) ∧
      (classR1 v).getLsbD 10 = (v == 0x01) ∧ (classR1 v).getLsbD 11 = (v == 0x00) := by
  simp (disch := decide) only [classR1, getLsbD_append_of_le, getLsbD_append_of_lt, getLsbD_bitOf_zero, Nat.reduceSub]
  exact ⟨rfl, rfl, rfl, rfl⟩

theorem classR1_reserved {k : Nat} (hk : 12 ≤ k) (v : Byte) : (classR1 v).getLsbD k = false := by
  simp (disch := omega) only [classR1, getLsbD_append_of_le, BitVec.getLsbD_zero]

/-- Settles O14: the classification of the latched byte, bit by bit. -/
theorem decr1Classifies : Obligations.Decr1Classifies := by
  unfold Obligations.Decr1Classifies
  intro s hph
  have hbits {k : Nat} (hk : k < 8) :
      (classR1 (s.latch.arg.extractLsb' 0 8)).getLsbD k = s.latch.arg.getLsbD k := by
    rw [classR1_bits hk, getLsbD_extractLsb'_of_lt hk, Nat.zero_add]
  obtain ⟨hnoResponse, herror, hidle, hready⟩ := classR1_categories (s.latch.arg.extractLsb' 0 8)
  exact ⟨_, exec_resume .decr1 s rfl hph, fun _ hk => hbits hk, hnoResponse, herror, hidle, hready,
    fun _ hk => classR1_reserved hk _⟩

/-! ### FieldsR3 (R263) -/

theorem fieldsR3_powerUp (t : Word) : (fieldsR3 t).getLsbD 0 = t.getLsbD 31 := by
  simp (disch := decide) only [fieldsR3, getLsbD_append_of_lt, getLsbD_extractLsb'_of_lt]

theorem fieldsR3_capacity (t : Word) : (fieldsR3 t).getLsbD 1 = t.getLsbD 30 := by
  simp (disch := decide) only [fieldsR3, getLsbD_append_of_le, getLsbD_append_of_lt, getLsbD_extractLsb'_of_lt]

theorem fieldsR3_voltageWindow {k : Nat} (hk : k < 9) (t : Word) :
    (fieldsR3 t).getLsbD (2 + k) = t.getLsbD (15 + k) := by
  simp (disch := omega) only [fieldsR3, getLsbD_append_of_le, getLsbD_append_of_lt, getLsbD_extractLsb'_of_lt]
  congr 1; omega

theorem fieldsR3_reserved {k : Nat} (hk : 11 ≤ k) (t : Word) : (fieldsR3 t).getLsbD k = false := by
  simp (disch := omega) only [fieldsR3, getLsbD_append_of_le, BitVec.getLsbD_zero]

/-- Settles O15: the fields of the latched word, each at its place. -/
theorem decr3Decodes : Obligations.Decr3Decodes := by
  unfold Obligations.Decr3Decodes
  intro s hph
  exact ⟨_, exec_resume .decr3 s rfl hph, fieldsR3_powerUp _, fieldsR3_capacity _,
    fun _ hk => fieldsR3_voltageWindow hk _, fun _ hk => fieldsR3_reserved hk _⟩

/-! ### FieldsR7 (R265) -/

theorem fieldsR7_version (c : Config) {k : Nat} (hk : k < 4) (t : Word) :
    (fieldsR7 c t).getLsbD k = t.getLsbD (28 + k) := by
  simp (disch := omega) only [fieldsR7, getLsbD_append_of_lt, getLsbD_extractLsb'_of_lt]

theorem fieldsR7_voltage (c : Config) {k : Nat} (hk : k < 4) (t : Word) :
    (fieldsR7 c t).getLsbD (4 + k) = t.getLsbD (8 + k) := by
  simp (disch := omega) only [fieldsR7, getLsbD_append_of_le, getLsbD_append_of_lt, getLsbD_extractLsb'_of_lt,
    Nat.add_sub_cancel_left]

theorem fieldsR7_echo (c : Config) {k : Nat} (hk : k < 8) (t : Word) :
    (fieldsR7 c t).getLsbD (8 + k) = t.getLsbD k := by
  simp (disch := omega) only [fieldsR7, getLsbD_append_of_le, getLsbD_append_of_lt, getLsbD_extractLsb'_of_lt]
  congr 1; omega

theorem fieldsR7_echoMatch (c : Config) (t : Word) :
    (fieldsR7 c t).getLsbD 16 = (t.extractLsb' 0 8 == c.checkPattern) := by
  simp (disch := decide) only [fieldsR7, getLsbD_append_of_le, getLsbD_append_of_lt]
  exact getLsbD_bitOf_zero _

theorem fieldsR7_reserved (c : Config) {k : Nat} (hk : 17 ≤ k) (t : Word) : (fieldsR7 c t).getLsbD k = false := by
  simp (disch := omega) only [fieldsR7, getLsbD_append_of_le, BitVec.getLsbD_zero]

/-- Settles O16: the fields of the latched word and its echo's match, each at its place. -/
theorem decr7Decodes : Obligations.Decr7Decodes := by
  unfold Obligations.Decr7Decodes
  intro s hph
  exact ⟨_, exec_resume .decr7 s rfl hph, fun _ hk => fieldsR7_version s.cfg hk _,
    fun _ hk => fieldsR7_voltage s.cfg hk _, fun _ hk => fieldsR7_echo s.cfg hk _, fieldsR7_echoMatch s.cfg _,
    fun _ hk => fieldsR7_reserved s.cfg hk _⟩

end Sys2Proof.Machine
end

/-! # Proofs: exceptions (60_exceptions.md) -/

section
/-! ## An accepted illegal word (R114, R190, R281)

A reserved opcode does not decode and the engine finishes it; SENDCMD with RTYPE = 3 decodes and finishes itself. -/

namespace Sys2Proof.Machine

/-- The step after an acceptance with no host move waiting is the engine's. -/
theorem step_accept {s : State} (ha : s.cfg.admitted = true) (hm : s.moves = []) (w : Word) :
    step (accept w s) = engineStep (accept w s) := step_of_moves_nil (accept w s) ha hm

/-- The engine ends an accepted word that does not decode, and writes no more than acceptance and `finish` do. -/
theorem engineStep_accept_error {w : Word} {e : DecodeError} (h : decodeHost w = .error e) (s : State) :
    engineStep (accept w s) = .next (endedWith 0x01 (accept w s)) :=
  engineStep_illegal (accept w s) _ _ e rfl rfl h

/-- SENDCMD ends so too where RTYPE = 3: that value selects no response format (R190). -/
theorem engineStep_accept_sendcmd_illegal {w : Word} (hopc : opcodeOf w = 0x02) (hrtype : w.extractLsb' 16 2 = 3)
    (s : State) : engineStep (accept w s) = .next (endedWith 0x01 (accept w s)) := by
  obtain ⟨-, -, -, hillegal⟩ := sendcmdSendsAndCompletes.1 (accept w s) (w.extractLsb' 8 6) (w.extractLsb' 16 2)
    (w.extractLsb' 24 8) rfl rfl
  exact (engineStep_operation (accept w s) _ _ _ rfl rfl (decodeHost_sendcmd hopc)).trans (hillegal hrtype)

/-- Settles O11: the two kinds of illegal word end alike. -/
theorem illegalWordFinishes : Obligations.IllegalWordFinishes := by
  unfold Obligations.IllegalWordFinishes
  intro s w ha hm hillegal
  rw [step_accept ha hm]
  rcases hillegal with hzero | hhigh | ⟨hopc, hrtype⟩
  · exact engineStep_accept_error (decodeHost_reserved (.inl hzero)) s
  · exact engineStep_accept_error (decodeHost_reserved (.inr hhigh)) s
  · exact engineStep_accept_sendcmd_illegal hopc hrtype s

end Sys2Proof.Machine
end

/-! # Proofs: reset and hazards (70_reset_and_hazards.md) -/

section
/-! ## A transaction's steps run out (R168, R331)

Each guard in front of a loop's next turn is what makes that turn bring the end nearer, whatever byte the card
answers. -/

namespace Sys2Proof.Machine

/-- The bound on the steps the transaction under way still takes, as `stepsLeft` counts it. -/
def txnLeft (s : State) : Nat := transactionLeft s.cfg s.txn.kind s.txn.phase

theorem txnLeft_of_complete {s : State} (h : s.txn.phase = .complete) : txnLeft s = 0 := by
  rw [txnLeft, h]; rfl

theorem txnLeft_settle (s : State) : txnLeft (settle s) = 2 := rfl

theorem txnLeft_endData (tok : Byte) (s : State) : txnLeft (endData tok s) = 2 := rfl

theorem txnLeft_readTrailing (got : List Byte) (s : State) :
    txnLeft (readTrailing got s) < (4 - got.length) + 3 := by
  unfold readTrailing
  split
  · show 4 - (got ++ [s.nextIn]).length + 3 < _
    rw [List.length_append, List.length_singleton]
    omega
  · rw [txnLeft_settle]; omega

theorem txnLeft_dataPhase (i : Nat) (s : State) : txnLeft (dataPhase i s) < (512 - i) + 5 := by
  unfold dataPhase
  split
  · show 512 - (i + 1) + 5 < _
    omega
  · show 4 < _
    omega

theorem txnLeft_pollToken (polls : Nat) (last : Byte) (s : State) :
    txnLeft (pollToken polls last s) < (s.cfg.tokenPollMax - polls) + 517 := by
  unfold pollToken
  split
  · split
    · have hdata := txnLeft_dataPhase 0 { s with txn := { s.txn with tok := last } }
      omega
    · rw [txnLeft_endData]; omega
  · show s.cfg.tokenPollMax - (polls + 1) + 517 < _
    omega

theorem txnLeft_afterR1 (r : Byte) (s : State) : txnLeft (afterR1 r s) < responseSteps s.cfg s.txn.kind := by
  unfold afterR1
  dsimp only
  split
  case h_1 hkind => rw [txnLeft_settle, hkind, responseSteps]; omega
  case h_2 hkind | h_3 hkind =>
    rw [hkind, responseSteps]
    split
    · rw [txnLeft_settle]; omega
    · show 4 - 1 + 3 < 7
      omega
  case h_4 hkind =>
    rw [hkind, responseSteps]
    split
    · rw [txnLeft_endData]; omega
    · exact txnLeft_pollToken 0 0xFF _

theorem txnLeft_pollR1 (polls : Nat) (last : Byte) (s : State) :
    txnLeft (pollR1 polls last s) < (s.cfg.r1PollMax - polls) + responseSteps s.cfg s.txn.kind := by
  unfold pollR1
  split
  · exact Nat.lt_add_left _ (txnLeft_afterR1 last s)
  · show s.cfg.r1PollMax - (polls + 1) + responseSteps s.cfg s.txn.kind < _
    omega

/-- Every step of a transaction under way brings its end nearer, from whatever position. -/
theorem txnLeft_transactionStep (s : State) (hph : s.txn.phase ≠ .complete) :
    txnLeft (transactionStep s) < txnLeft s := by
  rw [txnLeft.eq_def s]
  cases h : s.txn.phase with
  | frame i =>
    rw [transactionStep_frame s i h]
    show transactionLeft s.cfg s.txn.kind (if i < 5 then .frame (i + 1) else .r1Poll 0 0xFF) < _
    split <;> simp only [transactionLeft] <;> omega
  | r1Poll k r => rw [transactionStep_r1Poll s k r h]; exact txnLeft_pollR1 k r s
  | trailing got => rw [transactionStep_trailing s got h]; exact txnLeft_readTrailing got s
  | tokenPoll p b => rw [transactionStep_tokenPoll s p b h]; exact txnLeft_pollToken p b s
  | data i => rw [transactionStep_data s i h]; exact txnLeft_dataPhase i s
  | start =>
    rw [transactionStep_start s h]
    show 7 + s.cfg.r1PollMax + responseSteps s.cfg s.txn.kind < 8 + s.cfg.r1PollMax + responseSteps s.cfg s.txn.kind
    omega
  | selected =>
    rw [transactionStep_selected s h]
    show 6 + s.cfg.r1PollMax + responseSteps s.cfg s.txn.kind < 7 + s.cfg.r1PollMax + responseSteps s.cfg s.txn.kind
    omega
  | crc1 => rw [transactionStep_crc1 s h]; exact Nat.lt_succ_self 3
  | crc2 => rw [transactionStep_crc2 s h]; exact Nat.lt_succ_self 2
  | settled => rw [transactionStep_settled s h]; exact Nat.lt_succ_self 1
  | deselected => rw [transactionStep_deselected s h]; exact Nat.lt_succ_self 0
  | complete => exact absurd h hph

end Sys2Proof.Machine
end

section
/-! ## An operation outside its transactions comes nearer to its end (R178-R186, R190, R195, R210, R240, R331)

It ends, or performs a primitive of its own, or begins a transaction; a transaction begun costs its whole bound at
once, which the bound of the point it leaves must cover. -/

namespace Sys2Proof.Machine

/-- The operation has ended, with the handshake saying so (R285). -/
def Ended (s : State) : Prop := s.seq = .idle ∧ s.busy = false ∧ s.done = true

/-- Operation `i` has ended in `s`, or runs there with fewer than `n` steps to come. -/
def EndsOrNears (i : Instr) (n : Nat) (s : State) : Prop :=
  Ended s ∨ s.seq.running = true ∧ txnLeft s + operationLeft s.cfg i s.point < n

theorem ended_finish (c : Byte) (s : State) : Ended (finish c s) := ⟨rfl, rfl, rfl⟩

/-! ### The three ways to go on -/

theorem endsOrNears_finish {i : Instr} {n : Nat} (c : Byte) (s : State) : EndsOrNears i n (finish c s) :=
  .inl (ended_finish c s)

theorem endsOrNears_atPoint {i : Instr} {n : Nat} {p : Point} {s : State} (hph : s.txn.phase = .complete)
    (h : operationLeft s.cfg i p < n) : EndsOrNears i n (s.atPoint p) := by
  refine .inr ⟨rfl, ?_⟩
  rw [txnLeft_of_complete (s := s.atPoint p) hph, Nat.zero_add]
  exact h

/-- The first step of a transaction is taken with the call. -/
theorem endsOrNears_sendCommand {i : Instr} {n : Nat} {p : Point} {f : BitVec 48} {k : RespKind} {s : State}
    (h : transactionSteps s.cfg k + operationLeft s.cfg i p ≤ n) : EndsOrNears i n (sendCommand p f k s) := by
  refine .inr ⟨rfl, ?_⟩
  show 7 + s.cfg.r1PollMax + responseSteps s.cfg k + operationLeft s.cfg i p < n
  unfold transactionSteps at h
  omega

theorem endsOrNears_blockRead {i : Instr} {n : Nat} {p : Point} {sector : Word} {s : State}
    (h : transactionSteps s.cfg .data + operationLeft s.cfg i p ≤ n) : EndsOrNears i n (blockRead p sector s) :=
  endsOrNears_sendCommand h

/-! ### INIT (R178-R186) -/

/-- With turns left in a loop of `m`, the next turn's cost `k` is one of those still to be paid. -/
theorem sub_mul_of_lt {n m : Nat} (h : n < m) (k : Nat) : (m - n) * k = k + (m - (n + 1)) * k := by
  rw [show m - n = m - (n + 1) + 1 by omega, Nat.succ_mul, Nat.add_comm]

theorem initLeft_goIdle_again {c : Config} {a : Nat} (h : a < c.idleAttempts) :
    initLeft c (.init (.goIdle a)) = transactionSteps c .r1 + initLeft c (.init (.goIdle (a + 1))) := by
  simp only [initLeft, initLeft.r1, sub_mul_of_lt h]
  omega

theorem initLeft_paced_lt {c : Config} {n : Nat} (h : n < c.appAttempts) (a : Nat) :
    initLeft c (.init (.paced a n)) < initLeft c (.init (.opCond a n)) := by
  simp only [initLeft, sub_mul_of_lt h]
  omega

/-- An unsuccessful iteration of AppInit ends INIT or uses up one of those left (R184). -/
theorem endsOrNears_initRetry {a n m : Nat} {s : State} (hph : s.txn.phase = .complete)
    (h : initLeft s.cfg (.init (.opCond a n)) ≤ m) : EndsOrNears .init m (initRetry a n s) := by
  unfold initRetry
  split
  · exact endsOrNears_finish _ _
  · rename_i hn
    exact endsOrNears_atPoint hph (Nat.lt_of_lt_of_le (initLeft_paced_lt (not_le.mp hn) a) h)

theorem endsOrNears_resumeInit (p : Point) (s : State) (hph : s.txn.phase = .complete) :
    EndsOrNears .init (initLeft s.cfg p) (resumeInit p s) := by
  cases p with
  | start | sendcmd | rdblk | mount q | rdfile q =>
    exact endsOrNears_atPoint hph (by simp [operationLeft, initLeft])
  | init q =>
    cases q with
    | powered => exact endsOrNears_atPoint hph (by simp [operationLeft, initLeft])
    | fillers k =>
      cases k with
      | zero => exact endsOrNears_sendCommand (by simp [operationLeft, initLeft, initLeft.idle, initLeft.r1])
      | succ k => exact endsOrNears_atPoint hph (by simp [operationLeft, initLeft])
    | goIdle a =>
      simp only [resumeInit]
      split
      · exact endsOrNears_sendCommand (by simp only [operationLeft, initLeft, initLeft.r7]; omega)
      · split
        · exact endsOrNears_finish _ _
        · rename_i ha
          exact endsOrNears_sendCommand (initLeft_goIdle_again (not_le.mp ha)).ge
    | ifCond a =>
      simp only [resumeInit]
      split
      · exact endsOrNears_finish _ _
      · split
        · exact endsOrNears_sendCommand (by
            simp only [operationLeft, initLeft, initLeft.negotiate, initLeft.r1]; omega)
        · exact endsOrNears_finish _ _
    | appCmd a n =>
      simp only [resumeInit]
      split
      · exact endsOrNears_initRetry hph (by simp only [initLeft]; omega)
      · exact endsOrNears_sendCommand (by simp only [operationLeft, initLeft, initLeft.r1]; omega)
    | opCond a n =>
      simp only [resumeInit]
      split
      · exact endsOrNears_atPoint hph (by simp only [operationLeft, initLeft, delay_cfg]; omega)
      · exact endsOrNears_initRetry hph le_rfl
    | paced a n => exact endsOrNears_sendCommand (by simp only [operationLeft, initLeft, initLeft.r1]; omega)
    | ocrSettled a n => exact endsOrNears_sendCommand (by simp [operationLeft, initLeft, initLeft.ocr])
    | readOcr a n => exact endsOrNears_finish _ _

/-! ### SENDCMD, RDBLK and MOUNT (R190, R195, R210) -/

/-- Of the kinds SENDCMD can select, the longest are R3 and R7. -/
theorem transactionSteps_kindOf_le {rtype : BitVec 2} {k : RespKind} (h : kindOf rtype = some k) (c : Config) :
    transactionSteps c k ≤ transactionSteps c .r7 := by
  unfold kindOf at h
  split at h
  · cases h; simp [transactionSteps, responseSteps]
  · split at h
    · cases h; exact le_rfl
    · split at h <;> cases h
      exact le_rfl

theorem endsOrNears_resumeSendcmd (idx : BitVec 6) (rtype : BitVec 2) (chk : Byte) (p : Point) (s : State) :
    EndsOrNears (.sendcmd idx rtype chk) (sendcmdLeft s.cfg p) (resumeSendcmd idx rtype chk p s) := by
  cases p with
  | sendcmd => exact endsOrNears_finish _ _
  | start | init q | rdblk | mount q | rdfile q =>
    simp only [resumeSendcmd]
    split
    · rename_i hkind
      exact endsOrNears_sendCommand (Nat.add_le_add_right (transactionSteps_kindOf_le hkind _) 1)
    · exact endsOrNears_finish _ _

theorem endsOrNears_resumeRdblk (p : Point) (s : State) :
    EndsOrNears .rdblk (rdblkLeft s.cfg p) (resumeRdblk p s) := by
  cases p with
  | rdblk => simp only [resumeRdblk]; split <;> exact endsOrNears_finish _ _
  | start | init q | sendcmd | mount q | rdfile q =>
    simp only [resumeRdblk]
    split
    · exact endsOrNears_blockRead le_rfl
    · exact endsOrNears_finish _ _

theorem endsOrNears_resumeMount (p : Point) (s : State) :
    EndsOrNears .mount (mountLeft s.cfg p) (resumeMount p s) := by
  cases p with
  | mount q =>
    cases q with
    | sector0 =>
      simp only [resumeMount]
      split
      · exact endsOrNears_finish _ _
      · split
        · exact endsOrNears_finish _ _
        · split
          · exact endsOrNears_blockRead le_rfl
          · exact endsOrNears_finish _ _
    | partition u =>
      simp only [resumeMount]
      split
      · exact endsOrNears_finish _ _
      · split <;> exact endsOrNears_finish _ _
  | start | init q | sendcmd | rdblk | rdfile q =>
    rw [resumeMount_start rfl]
    split
    · exact endsOrNears_blockRead (by simp only [operationLeft, mountLeft]; omega)
    · exact endsOrNears_finish _ _

/-! ### RDFILE (R240, R241) -/

/-- The read of directory sector `k` costs one of the sectors left in the scan extent; the matched file's read is the
one beyond them. -/
theorem endsOrNears_readDirectory {k n : Nat} {target : List Byte} {s0 : Word} {s : State}
    (h : (s.cfg.rootScanSectors - k + 1) * transactionSteps s.cfg .data + 1 ≤ n) :
    EndsOrNears .rdfile n (readDirectory k target s0 s) := by
  unfold readDirectory
  split
  · rename_i hk
    refine endsOrNears_blockRead ?_
    rw [show s.cfg.rootScanSectors - k = s.cfg.rootScanSectors - 1 - k + 1 by omega, Nat.succ_mul] at h
    simp only [operationLeft, rdfileLeft]
    omega
  · exact endsOrNears_finish _ _

theorem endsOrNears_startRdfile (s : State) :
    EndsOrNears .rdfile ((s.cfg.rootScanSectors + 1) * transactionSteps s.cfg .data + 1) (startRdfile s) := by
  unfold startRdfile
  split
  · exact endsOrNears_finish _ _
  · split
    · exact endsOrNears_readDirectory le_rfl
    · exact endsOrNears_finish _ _

theorem endsOrNears_resumeRdfile (p : Point) (s : State) :
    EndsOrNears .rdfile (rdfileLeft s.cfg p) (resumeRdfile p s) := by
  cases p with
  | rdfile q =>
    cases q with
    | directory k target s0 =>
      simp only [resumeRdfile]
      split
      · exact endsOrNears_finish _ _
      · split
        · exact endsOrNears_finish _ _
        · refine endsOrNears_blockRead ?_
          simp only [operationLeft, rdfileLeft, Nat.succ_mul]
          omega
        · refine endsOrNears_readDirectory ?_
          rw [show s.cfg.rootScanSectors - (k + 1) = s.cfg.rootScanSectors - 1 - k by omega]
          exact le_rfl
    | file c z =>
      simp only [resumeRdfile]
      split <;> exact endsOrNears_finish _ _
  | start | init q | sendcmd | rdblk | mount q => exact endsOrNears_startRdfile s

/-! ### Every operation -/

theorem endsOrNears_of_eq_finish {i j : Instr} {n : Nat} {s : State} (t : State)
    (h : ∃ u c, ResultWrite s j u ∧ c.toNat ≤ 9 ∧ t = finish c u) : EndsOrNears i n t := by
  obtain ⟨u, c, -, -, rfl⟩ := h
  exact endsOrNears_finish c u

theorem endsOrNears_resumeOf (i : Instr) (p : Point) (s : State) (hi : isHostOp i = true)
    (hph : s.txn.phase = .complete) : EndsOrNears i (operationLeft s.cfg i p) (resumeOf i p s) := by
  cases i with
  | init => exact endsOrNears_resumeInit p s hph
  | sendcmd idx rtype chk => exact endsOrNears_resumeSendcmd idx rtype chk p s
  | rdblk => exact endsOrNears_resumeRdblk p s
  | mount => exact endsOrNears_resumeMount p s
  | rdfile => exact endsOrNears_resumeRdfile p s
  | c2s | norm | decr1 | decr3 | decr7 => exact endsOrNears_of_eq_finish _ (resumeOf_eq_finish _ (by decide) p s)
  | cmd0 | cmd8 | cmd55 | acmd41 | cmd58 | cmd17 _ | sdframe _ _ _ => cases hi

end Sys2Proof.Machine
end

section
/-! ## Every operation ends (R331) -/

namespace Sys2Proof.Machine

/-! ### One step -/

theorem stepsLeft_of_ok {s : State} {i : Instr} (h : decodeHost s.latch.cmd = .ok i) :
    stepsLeft s = txnLeft s + operationLeft s.cfg i s.point := by
  simp only [stepsLeft, h, txnLeft]

/-- A step of the transaction under way leaves the operation waiting at its point, and the transaction nearer its
end. -/
theorem stepsLeft_transactionStep (s : State) (hph : s.txn.phase ≠ .complete) :
    stepsLeft (transactionStep s) < stepsLeft s := by
  have htxn := txnLeft_transactionStep s hph
  have hbus := busOnly_transactionStep s
  have hcfg : (transactionStep s).cfg = s.cfg := by rw [hbus]
  have hlatch : (transactionStep s).latch = s.latch := by rw [hbus]
  have hpoint : (transactionStep s).point = s.point := by rw [hbus]; rfl
  unfold stepsLeft
  rw [hlatch, hpoint, hcfg]
  rw [txnLeft, hcfg] at htxn
  exact Nat.add_lt_add_right htxn _

/-- Outside a transaction the latched operation ends or comes nearer to its end. -/
theorem stepsLeft_resumeOf {s : State} {i : Instr} (hdec : decodeHost s.latch.cmd = .ok i)
    (hph : s.txn.phase = .complete) :
    Ended (resumeOf i s.point s) ∨
      (resumeOf i s.point s).seq.running = true ∧ stepsLeft (resumeOf i s.point s) < stepsLeft s := by
  have hi := decodeHost_isHostOp _ i hdec
  obtain ⟨u, hu, hm⟩ := resumeStep_resumeOf i s hi
  have hhost := hm.hostPart.trans hu.hostPart
  simp only [State.hostPart, Prod.mk.injEq] at hhost
  obtain ⟨-, -, -, -, -, -, hlatch, -⟩ := hhost
  rw [stepsLeft_of_ok hdec, stepsLeft_of_ok (by rw [hlatch, hdec]), txnLeft_of_complete hph, Nat.zero_add]
  exact endsOrNears_resumeOf i s.point s hi hph

/-- Settles O56: a step inside a transaction brings the transaction's end nearer, one outside the operation's own. -/
theorem engineStepsCountDown : Obligations.EngineStepsCountDown := by
  unfold Obligations.EngineStepsCountDown
  intro s hrun
  cases hseq : s.seq with
  | idle => rw [hseq] at hrun; cases hrun
  | run op p =>
    by_cases hph : s.txn.phase = .complete
    · cases hdec : decodeHost s.latch.cmd with
      | ok i =>
        refine ⟨_, ?_, stepsLeft_resumeOf hdec hph⟩
        rw [engineStep_operation s op p i hseq hph hdec, exec_resume i s (decodeHost_isHostOp _ i hdec) hph]
      | error e =>
        exact ⟨_, engineStep_illegal s op p e hseq hph hdec, .inl (ended_finish _ s)⟩
    · refine ⟨_, engineStep_transaction s op p hseq hph, .inr ⟨?_, stepsLeft_transactionStep s hph⟩⟩
      rw [show (transactionStep s).seq = s.seq by rw [busOnly_transactionStep s]]
      exact hrun

/-! ### The whole run -/

theorem initLeft_pos (c : Config) (p : Point) : 0 < initLeft c p := by
  cases p with
  | start | sendcmd | rdblk | mount q | rdfile q => simp only [initLeft]; omega
  | init q =>
    cases q with
    | powered | opCond a n | appCmd a n | paced a n => simp only [initLeft]; omega
    | fillers k => simp only [initLeft, initLeft.idle, initLeft.negotiate]; omega
    | goIdle a | ifCond a => simp only [initLeft, initLeft.negotiate]; omega
    | ocrSettled a n | readOcr a n => exact Nat.succ_pos _

/-- The step that ends an operation is counted too. -/
theorem operationLeft_pos (c : Config) (i : Instr) (p : Point) : 0 < operationLeft c i p := by
  cases i with
  | init => exact initLeft_pos c p
  | sendcmd idx rtype chk => cases p <;> exact Nat.succ_pos _
  | rdblk => cases p <;> exact Nat.succ_pos _
  | mount =>
    cases p with
    | mount q => cases q <;> exact Nat.succ_pos _
    | start | init q | sendcmd | rdblk | rdfile q => exact Nat.succ_pos _
  | rdfile =>
    cases p with
    | rdfile q => cases q <;> exact Nat.succ_pos _
    | start | init q | sendcmd | rdblk | mount q => exact Nat.succ_pos _
  | c2s | norm | decr1 | decr3 | decr7 | cmd0 | cmd8 | cmd55 | acmd41 | cmd58 | cmd17 _ | sdframe _ _ _ =>
    exact Nat.one_pos

theorem stepsLeft_pos (s : State) : 0 < stepsLeft s := by
  cases hdec : decodeHost s.latch.cmd with
  | ok i => rw [stepsLeft_of_ok hdec]; exact Nat.add_pos_right _ (operationLeft_pos _ i _)
  | error e => simp only [stepsLeft, hdec]; omega

theorem engineRun_succ {s t : State} (h : engineStep s = .next t) (n : Nat) : engineRun (n + 1) s = engineRun n t := by
  simp only [engineRun, h]

/-- A running operation ends within the steps it has left. -/
theorem exists_engineRun_ended (m : Nat) : ∀ s : State, s.seq.running = true → stepsLeft s ≤ m →
    ∃ n t, n ≤ m ∧ engineRun n s = .next t ∧ Ended t := by
  induction m with
  | zero => exact fun s _ hm => absurd (stepsLeft_pos s) (Nat.not_lt.mpr hm)
  | succ m ih =>
    intro s hrun hm
    obtain ⟨t, hstep, hended | ⟨hrun', hlt⟩⟩ := engineStepsCountDown s hrun
    · exact ⟨1, t, Nat.succ_le_succ m.zero_le, engineRun_succ hstep 0, hended⟩
    · obtain ⟨n, u, hn, hrun'', hended⟩ := ih t hrun' (Nat.le_of_lt_succ (Nat.lt_of_lt_of_le hlt hm))
      exact ⟨n + 1, u, Nat.succ_le_succ hn, (engineRun_succ hstep n).trans hrun'', hended⟩

/-- An acceptance stands at the operation's start, with no transaction under way (R286). -/
theorem stepsLeft_accept (w : Word) (s : State) : stepsLeft (accept w s) = stepBound s.cfg w := Nat.zero_add _

/-- Settles O57: the bound of an accepted word is what the count starts from. -/
theorem acceptedOperationsFinish : Obligations.AcceptedOperationsFinish := by
  unfold Obligations.AcceptedOperationsFinish
  intro s w
  obtain ⟨n, t, hn, hrun, hidle, hbusy, hdone⟩ :=
    exists_engineRun_ended (stepBound s.cfg w) (accept w s) rfl (stepsLeft_accept w s).le
  exact ⟨n, t, hn, hrun, hbusy, hdone, hidle⟩

end Sys2Proof.Machine
end
